-- ==== Sys2Proof/Word.lean ====
section
/-! DEFINITION. The words of the WK260: bytes, counters, unit numbers, station IDs and slot numbers. -/

namespace Sys2Proof

/-- A byte of 8 bits (00_scope.md section 5). -/
abbrev Byte := BitVec 8

/-- A term, timer, limit, tag or count of two bytes (Formats and Signals, opening paragraph). -/
abbrev Word16 := BitVec 16

/-- An epoch or a stamp count (R5). -/
abbrev Word32 := BitVec 32

/-- A unit number, 0..2^40 − 1 (R1). -/
abbrev UnitNo := BitVec 40

/-- A station ID, 0..15 (R5). -/
abbrev StationId := BitVec 4

/-- A visited or objector set: station n is bit n (R182). -/
abbrev StationSet := BitVec 16

/-- A 10-bit code group of a lane (11.1). -/
abbrev LaneGroup := BitVec 10

/-- A slot of the lease table, 0..63 (R12). -/
abbrev SlotNo := Fin 64

end Sys2Proof
end

