-- ==== Sys2Proof/Syntax.lean ====
section
/-! DEFINITION. The commands of the block: one constructor per row of spec/opcode_table.json. -/

namespace Sys2Proof

/-- The two ports of a station (chapter 6). -/
inductive Port where
  | upstream
  | downstream
  deriving DecidableEq, Repr

/-- Why a receiver loses its lock (R97, R181). -/
inductive LockLoss where
  /-- Symbol alignment is lost. -/
  | alignmentLost
  /-- No signal transition for the length of 4 groups. -/
  | laneQuiet
  /-- A group that is a code violation on its lane; `inFrame` says whether a START has been received
  without its END. -/
  | violation (inFrame : Bool) (group : LaneGroup)
  deriving DecidableEq, Repr

/-- The three events of one SPI transaction that the host port acts at (R165 to R167): other events may fall
between them. -/
inductive SpiEvent where
  /-- CSN falls. -/
  | fall
  /-- The code byte has been shifted in. -/
  | code (b : Byte)
  /-- CSN rises; the whole bytes shifted in after the code byte. -/
  | rise (data : List Byte)
  deriving DecidableEq, Repr

/-- The commands of the block, in the order of spec/opcode_table.json. -/
inductive Instr where
  /-- RESETN changes its level: a first one pulls it low, where it is held until the next releases it (R163). -/
  | resetn
  /-- An event of a STATION_RESET transaction (R164). -/
  | stationReset (event : SpiEvent)
  /-- An event of a WRITE_COMMAND transaction (R169). -/
  | writeCommand (event : SpiEvent)
  /-- An event of a READ_RESULT transaction (R175). -/
  | readResult (event : SpiEvent)
  /-- An event of a READ_STATUS transaction (R167). -/
  | readStatus (event : SpiEvent)
  /-- An event of a WRITE_INDEX transaction (R178). -/
  | writeIndex (event : SpiEvent)
  /-- An event of a READ_WINDOW transaction (R179). -/
  | readWindow (event : SpiEvent)
  /-- The command handler takes a CONFIGURE record (R153). -/
  | configure
  /-- The command handler takes a CLAIM record (R36). -/
  | claim
  /-- The command handler takes a CANCEL record (R53). -/
  | cancel
  /-- The command handler takes a RELEASE record (R54). -/
  | release
  /-- The command handler takes a RENEW record (R51). -/
  | renew
  /-- The command handler takes a RESYNC record (R155). -/
  | resync
  /-- The command handler takes a LEAVE record (R156). -/
  | leave
  /-- The command handler takes a record whose code is no command code (R170). -/
  | unknownCommand
  /-- A grant drains the record notice mark of the lowest slot that holds one (R176). -/
  | recordNoticeDrain
  /-- A grant drains the STATE or the FAULT mark (R177). -/
  | stationNoticeDrain
  /-- The 1 ms tick (R162). -/
  | tick
  /-- The ballot timer of a slot's record has run out (R45). -/
  | ballotTimerExpiry (slot : SlotNo)
  /-- The wait limit of a slot's record has run out (R48). -/
  | waitLimitExpiry (slot : SlotNo)
  /-- The term of a slot's record has run out (R50). -/
  | termExpiry (slot : SlotNo)
  /-- The shadow timer of a slot's record has run out (R86). -/
  | shadowTimerExpiry (slot : SlotNo)
  /-- The fence timer has run out (R91). -/
  | fenceExpiry
  /-- The census retry timer has run out (R143). -/
  | censusRetryExpiry
  /-- The formation timer has run out (R144). -/
  | formationTimerExpiry
  /-- The leave timer has run out (R158). -/
  | leaveTimerExpiry
  /-- The drain condition holds in LEAVING (R157). -/
  | drainCompletion
  /-- The upstream port receives the bytes between a START and its END (R107). -/
  | frameArrival (bytes : List Byte)
  /-- A receiver finds the given consecutive groups at one bit offset (R99, R181). -/
  | receiveLockGained (port : Port) (groups : List LaneGroup)
  /-- A receiver loses its lock (R101, R181). -/
  | receiveLockLost (port : Port) (cause : LockLoss)
  /-- A group of the normal stream is received while locked (R97, R181). -/
  | farLockSet (port : Port) (inFrame : Bool) (group : LaneGroup)
  /-- The training pattern is received while locked (R101, R181). -/
  | farLockClear (port : Port)
  /-- The downstream port receives a TOKEN (R102). -/
  | token
  /-- The downstream port receives an ADVERTISE (R100). -/
  | advertise
  /-- The upstream port receives a REBASE (R106). -/
  | rebase
  /-- The upstream port sends the ADVERTISE it owes (R99, R106). -/
  | advertiseSend
  /-- The frame handler takes the oldest awaiting frame into hand (R114). -/
  | frameTaking
  /-- The vote scanner visits the next slot (R67). -/
  | scanVisit
  /-- The frame handler serves one due mark (R124). -/
  | dueService
  /-- The egress arbiter chooses a frame (R129). -/
  | arbiterChoice
  /-- The frame in send has been sent in full (R130). -/
  | frameDeparture
  deriving DecidableEq, Repr

end Sys2Proof
end

