-- ==== Sys2Proof/Config.lean ====
section
/-! DEFINITION. The constants of the part. The data book leaves no value to an implementation and no
result undefined after which the part goes on, so there is no open constant here. -/

namespace Sys2Proof.Config

/-- The station never holds more than this many own records in use (R18). -/
abbrev ownQuota : Nat := 24

/-- The transit queue never holds more frames than this (R104, R112). -/
abbrev transitDepth : Nat := 8

/-- The origination queue holds up to this many frames (R123). -/
abbrev originationDepth : Nat := 16

/-- The command queue holds up to this many records (R168). -/
abbrev commandDepth : Nat := 8

/-- The result queue holds up to this many records (R172). -/
abbrev resultDepth : Nat := 32

/-- Egress credit set by an ADVERTISE, and its bound (R100, R102). -/
abbrev fullCredit : Nat := 8

/-- The run of bad frames that forces a retrain (R108). -/
abbrev badFrameLimit : Nat := 4

/-- The loss count at which a further ballot loss retires the record (R45). -/
abbrev lossLimit : Nat := 3

/-- Consecutive transit sends after which a waiting originated frame goes next (R129). -/
abbrev arbiterLimit : Nat := 4

/-- A foreign frame with this hop count or more is discarded (R115). -/
abbrev hopLimit : Nat := 15

/-- The most members a census list holds (R107, R135). -/
abbrev maxMembers : Nat := 16

/-- The census retry timer starts at this many ticks (R134, R135). -/
abbrev censusRetryTicks : Word16 := 10

/-- REFCLK periods in one tick (R162). -/
abbrev refclkPerTick : Nat := 25000

/-- A claim clock increment above this value starts an epoch change: 2^32 − 256 (R11). -/
abbrev clockLimit : Word32 := 0xFFFFFF00

/-- The largest epoch and claim clock value, 2^32 − 1 (R7, R131). -/
abbrev maxWord32 : Word32 := 0xFFFFFFFF

/-- The announced term is clamped to this range (R80). -/
abbrev minTerm : Word16 := 100
abbrev maxTerm : Word16 := 60000

end Sys2Proof.Config
end

