-- ==== Sys2Proof/Machine/Bytes.lean ====
section
/-! DEFINITION. Byte order and the frame check: every multi-byte field is most significant byte first
(Formats and Signals, opening paragraph; R183). -/

namespace Sys2Proof.Machine

/-- `n` bytes of a value, most significant first. -/
def bigEndian : Nat → Nat → List Byte
  | 0, _ => []
  | n + 1, v => BitVec.ofNat 8 (v / 256 ^ n) :: bigEndian n v

/-- The value of a run of bytes, most significant first. -/
def fromBytes (bs : List Byte) : Nat :=
  bs.foldl (fun acc b => acc * 256 + b.toNat) 0

/-- Byte `i` of a record or frame. -/
def byteAt (bs : List Byte) (i : Nat) : Byte := bs.getD i 0

/-- The value of the `n` bytes that start at byte `i`. -/
def fieldAt (bs : List Byte) (i n : Nat) : Nat := fromBytes ((bs.drop i).take n)

/-- A byte that holds a flag in the bit of the given value. -/
def flagBit (b : Bool) (value : Byte) : Byte := if b then value else 0

/-- One bit step of the CRC-16 register, generator 1021h (R183). -/
def crcBit (r : Word16) : Word16 := if r.msb then (r <<< 1) ^^^ 0x1021#16 else r <<< 1

/-- One byte enters the CRC-16 register, most significant bit first (R183). -/
def crcByte (r : Word16) (b : Byte) : Word16 :=
  crcBit (crcBit (crcBit (crcBit (crcBit (crcBit (crcBit (crcBit
    (r ^^^ (b.setWidth 16 <<< 8)))))))))

/-- The check over a run of bytes; the register starts at FFFFh (R183). -/
def crc16 (bs : List Byte) : Word16 := bs.foldl crcByte 0xFFFF#16

end Sys2Proof.Machine
end

