-- ==== Sys2Proof/Machine/Types.lean ====
section
/-! DEFINITION. The plain data that the blocks of the station hold: ranges, stamps, records, frames,
queue entries, notices and the states of ports and station. -/

namespace Sys2Proof.Machine

/-- The mode of a lease (R3). -/
inductive Mode where
  | shared
  | exclusive
  deriving DecidableEq, Repr

/-- A range of units, both ends included (R1). -/
structure Range where
  first : UnitNo
  last : UnitNo
  deriving DecidableEq, Repr

/-- A stamp, and from the grant on a lease identity: epoch, count and station (holder) ID (R5). -/
structure Stamp where
  epoch : Word32
  count : Word32
  id : StationId
  deriving DecidableEq, Repr

/-- Kind of a record (R13). -/
inductive Kind where
  | own
  | shadow
  deriving DecidableEq, Repr

/-- State of a record; the first four are an own record's, the last three a shadow's (R13, R15). -/
inductive RecState where
  | pending
  | waiting
  | granted
  | retired
  | live
  | orphaned
  deriving DecidableEq, Repr

/-- What a WAITING record waits behind: LOCAL, REMOTE or EPOCH (R14). -/
inductive WaitCause where
  | localScan
  | remote
  | epoch
  deriving DecidableEq, Repr

/-- Causes of FAILED (R25, 11.3). -/
inductive FailCause where
  | conflict
  | timeout
  | ringFault
  | leave
  deriving DecidableEq, Repr

/-- Causes of REVOKED (R25, 11.3). -/
inductive RevokeCause where
  | isolation
  | leave
  deriving DecidableEq, Repr

/-- A record notice: kind and cause (R24). -/
inductive Notice where
  | granted
  | waiting (cause : WaitCause)
  | failed (cause : FailCause)
  | termLow
  | expired
  | revoked (cause : RevokeCause)
  deriving DecidableEq, Repr

/-- The notice mark of an own record with its REPLACED flag (R24). -/
structure NoticeMark where
  notice : Notice
  replaced : Bool
  deriving DecidableEq, Repr

/-- Cause of an ANNOUNCE due (R21). -/
inductive AnnounceCause where
  | grant
  | renew
  | reannounce
  deriving DecidableEq, Repr

/-- Reason of a RELEASE (R21). -/
inductive ReleaseReason where
  | released
  | expired
  | withdrawn
  | orphanLapsed
  | fenceEnd
  deriving DecidableEq, Repr

/-- The due mark of a record (R21). -/
inductive Due where
  | ballot
  | announce (cause : AnnounceCause)
  | release (reason : ReleaseReason)
  deriving DecidableEq, Repr

/-- The final cause of retirement (R25). -/
inductive RecOutcome where
  | released
  | expired
  | cancelled
  | failed (cause : FailCause)
  | revoked (cause : RevokeCause)
  | lapsed
  deriving DecidableEq, Repr

/-- A record of the lease table: the common fields of R13, the own fields of R14 and R33 (empty on a
shadow) and the announced term of a shadow (0 on an own record). -/
structure Record where
  kind : Kind
  state : RecState
  range : Range
  mode : Mode
  /-- Holder ID, stamp epoch and stamp count (R13). -/
  identity : Stamp
  objected : Bool
  due : Option Due
  mainTimer : Option Word16
  tag : Word16
  noWait : Bool
  waitLimit : Option Word16
  issue : Byte
  lossCount : Nat
  releaseSeen : Bool
  waitCause : Option WaitCause
  notice : Option NoticeMark
  outcome : Option RecOutcome
  waitingReported : Bool
  announcedTerm : Word16
  deriving DecidableEq, Repr

/-- A slot: FREE (`none`) or one record, and whether its content disagrees with its check value
(R12, R28; notes/assumptions/4.md). -/
structure Slot where
  content : Option Record
  damaged : Bool
  deriving DecidableEq, Repr

/-- A FREE slot whose check value is right. -/
def Slot.free : Slot := { content := none, damaged := false }

/-- The lease table: 64 slots in slot order (R12). -/
structure Table where
  slots : List Slot
  size : slots.length = 64
  deriving DecidableEq, Repr

/-- Body of a BALLOT; the mode byte is kept as carried (R182, R184). -/
structure Ballot where
  count : Word32
  issue : Byte
  mode : Byte
  range : Range
  visited : StationSet
  objectors : StationSet
  deriving DecidableEq, Repr

/-- Body of an ANNOUNCE; cause and mode bytes are kept as carried (R182, R184). -/
structure Announce where
  leaseEpoch : Word32
  count : Word32
  cause : Byte
  mode : Byte
  range : Range
  term : Word16
  deriving DecidableEq, Repr

/-- Body of a RELEASE; reason and mode bytes are kept as carried (R182, R184). -/
structure Release where
  holder : StationId
  reason : Byte
  leaseEpoch : Word32
  count : Word32
  mode : Byte
  range : Range
  deriving DecidableEq, Repr

/-- The body of a frame, by its kind (11.2). -/
inductive Body where
  | census (members : List StationId)
  | roster (members : List StationId)
  | ballot (b : Ballot)
  | announce (a : Announce)
  | release (r : Release)
  deriving DecidableEq, Repr

/-- A ring frame: the header of 11.2 and the body. -/
structure Frame where
  origin : StationId
  duplicate : Bool
  overfull : Bool
  hop : Byte
  epoch : Word32
  body : Body
  deriving DecidableEq, Repr

/-- Condition of a transit frame (R113). -/
inductive TransitCond where
  | awaiting
  | inHand
  | ready
  deriving DecidableEq, Repr

/-- A frame of the transit queue. -/
structure TransitEntry where
  frame : Frame
  cond : TransitCond
  deriving DecidableEq, Repr

/-- The queue a frame in send came from (R112). -/
inductive SendSource where
  | transit
  | origination
  deriving DecidableEq, Repr

/-- The frame in send (R112, R130). -/
structure InSend where
  frame : Frame
  source : SendSource
  /-- The bytes on the lane, check included, computed when the send began (R183). -/
  bytes : List Byte
  /-- Set when a flush or adoption has removed the frame from its queue (R130). -/
  left : Bool
  /-- The REBASE symbols that wait for the end of this send, one for each rebase during it (R105;
  notes/assumptions/26.md). -/
  rebases : Nat
  deriving DecidableEq, Repr

/-- A symbol sent on the return lane (R95). -/
inductive ReturnSymbol where
  | token
  | advertise
  deriving DecidableEq, Repr

/-- What is sent on the forward lane in the normal stream beside idle (R95). -/
inductive ForwardItem where
  /-- START, the bytes, END. -/
  | frame (bytes : List Byte)
  /-- A send of these bytes that was cut off before its END (R95). -/
  | cutOff (bytes : List Byte)
  | rebase
  deriving DecidableEq, Repr

/-- Link state of a port (R96). -/
inductive LinkState where
  | off
  | training
  | creditWait
  | up
  deriving DecidableEq, Repr

/-- A census key (R132). -/
structure Key where
  epoch : Word32
  origin : StationId
  deriving DecidableEq, Repr

/-- The ROSTER due: the member list and the epoch it carries (R131, R138). -/
structure RosterDue where
  epoch : Word32
  members : List StationId
  deriving DecidableEq, Repr

/-- Station state (R147). -/
inductive StationState where
  | unconfigured
  | forming
  | active
  | isolated
  | leaving
  | detached
  | halted
  deriving DecidableEq, Repr

/-- The configuration (R151). -/
structure Configuration where
  stationId : StationId
  term : Word16
  warning : Word16
  ballotLimit : Byte
  formationLimit : Word16
  orphanHold : Word16
  deriving DecidableEq, Repr

/-- How LEAVING ended (R158). -/
inductive LeaveOutcome where
  | clean
  | timedOut
  | interrupted
  deriving DecidableEq, Repr

/-- Why the station halted (R147). -/
inductive HaltCause where
  | duplicateId
  | epochExhausted
  | tableCheck
  deriving DecidableEq, Repr

/-- Cause of a FAULT notice (R148). -/
inductive FaultCause where
  | halt (cause : HaltCause)
  | ringOverfull
  deriving DecidableEq, Repr

/-- A STATE notice, its values fixed when the mark is set (R148). -/
structure StateNotice where
  state : StationState
  epoch : Word32
  members : Nat
  orphans : Nat
  fence : Bool
  outcome : Option LeaveOutcome
  deriving DecidableEq, Repr

/-- The STATE mark (R148). -/
structure StateMark where
  notice : StateNotice
  replaced : Bool
  deriving DecidableEq, Repr

/-- The FAULT mark (R148). -/
structure FaultMark where
  cause : FaultCause
  replaced : Bool
  deriving DecidableEq, Repr

/-- Cause of the STARTED notice (R163, R164). -/
inductive StartCause where
  | pin
  | host
  deriving DecidableEq, Repr

/-- An entry of the command queue: the record as written and its sequence number (R168). -/
structure CommandEntry where
  bytes : List Byte
  seq : Byte
  deriving DecidableEq, Repr

/-- Completion codes (R171, 11.3). -/
inductive CompletionCode where
  | ok
  | notConfigured
  | alreadyConfigured
  | badConfig
  | notActive
  | badRange
  | badMode
  | quota
  | tableFull
  | badSlot
  | wrongState
  | conflict
  | unknownCommand
  deriving DecidableEq, Repr

/-- A record of the result queue (R172). -/
inductive ResultRecord where
  | completion (code : CompletionCode) (command seq slot : Byte) (tag : Word16)
  | recordNotice (notice : Notice) (replaced : Bool) (slot : SlotNo) (tag : Word16)
      (state : RecState) (term : Word16)
  | started (cause : StartCause)
  | state (notice : StateNotice) (replaced : Bool)
  | fault (cause : FaultCause) (replaced : Bool)
  deriving DecidableEq, Repr

/-- A space of the inspection window (R178). -/
inductive WindowSpace where
  | station
  | link
  | record
  deriving DecidableEq, Repr

/-- The window index (R178). -/
structure WindowIndex where
  space : WindowSpace
  slot : SlotNo
  group : Nat
  deriving DecidableEq, Repr

/-- The SPI transaction in progress (R165): what is fixed while it runs. -/
structure Transfer where
  /-- The status byte, fixed at the fall of CSN (R166). -/
  status : Byte
  /-- The code byte, once it has been shifted in. -/
  code : Option Byte
  /-- The bytes to shift out after the code byte, fixed at its end (R167, R175, R179). -/
  reply : List Byte
  /-- Set when the reply is the head record of the result queue (R175). -/
  headShown : Bool
  deriving DecidableEq, Repr

/-- The scan in progress (R63); the ballot under scan is the transit frame in hand. -/
structure Scan where
  nextSlot : Nat
  objection : Bool
  deriving DecidableEq, Repr

end Sys2Proof.Machine
end

