-- ==== Sys2Proof/Machine/Operands.lean ====
section
/-! DEFINITION. The relations of chapter 1 and the reading of the fields that frames and written host
records carry, and the transactions of the host port (R1 to R6, R80, R132, R165, R184, R185). -/

namespace Sys2Proof.Machine

/-- Overlap: the first of each is at or below the last of the other, on the values as carried (R2). -/
def overlaps (a b : Range) : Bool := a.first ≤ b.last && b.first ≤ a.last

/-- Conflict: overlap, and at least one of the two EXCLUSIVE (R4). -/
def conflicts (a : Range) (m : Mode) (b : Range) (n : Mode) : Bool :=
  overlaps a b && (m == .exclusive || n == .exclusive)

/-- The whole space (R1). -/
def wholeSpace : Range := { first := 0, last := BitVec.allOnes 40 }

/-- Precedence of stamps: by epoch, then count, then station ID, unsigned (R6). -/
def precedes (x y : Stamp) : Bool :=
  x.epoch < y.epoch || (x.epoch == y.epoch && (x.count < y.count ||
    (x.count == y.count && x.id < y.id)))

/-- Key x is above key y: by epoch, then origin ID (R132). -/
def keyAbove (x y : Key) : Bool :=
  y.epoch < x.epoch || (x.epoch == y.epoch && y.origin < x.origin)

/-- Key x is above the best key; any key is above none (notes/assumptions/22.md). -/
def aboveBest (x : Key) : Option Key → Bool
  | none => true
  | some b => keyAbove x b

/-- A received mode byte: 01h is SHARED, every other value EXCLUSIVE (R3, R184). -/
def modeOfByte (b : Byte) : Mode := if b = 0x01 then .shared else .exclusive

/-- The mode code sent: 01h SHARED, 02h EXCLUSIVE (11.2). -/
def modeByte : Mode → Byte
  | .shared => 0x01
  | .exclusive => 0x02

/-- The mode code of a CLAIM: neither code is BAD_MODE (R3, R185). -/
def claimMode (b : Byte) : Option Mode :=
  if b = 0x01 then some .shared else if b = 0x02 then some .exclusive else none

/-- ANNOUNCE cause codes (11.2). -/
def causeByte : AnnounceCause → Byte
  | .grant => 0x01
  | .renew => 0x02
  | .reannounce => 0x03

/-- RELEASE reason codes (11.2). -/
def reasonByte : ReleaseReason → Byte
  | .released => 0x01
  | .expired => 0x02
  | .withdrawn => 0x03
  | .orphanLapsed => 0x04
  | .fenceEnd => 0x05

/-- A received reason: 01h to 05h as coded, any other value as RELEASED (R184). -/
def reasonOfByte (b : Byte) : ReleaseReason :=
  if b = 0x02 then .expired else if b = 0x03 then .withdrawn
  else if b = 0x04 then .orphanLapsed else if b = 0x05 then .fenceEnd else .released

/-- The term of an ANNOUNCE is taken as 100 below 100 and as 60000 above 60000 (R80). -/
def clampTerm (t : Word16) : Word16 :=
  if t < Config.minTerm then Config.minTerm else if Config.maxTerm < t then Config.maxTerm else t

/-- The bit of a station in a visited or objector set (R182). -/
def stationBit (id : StationId) : StationSet := 1#16 <<< id.toNat

/-- The set of a list of stations. -/
def stationSet (ids : List StationId) : StationSet := ids.foldr (fun i acc => stationBit i ||| acc) 0

/-- The stamp a ballot carries: header epoch, body count and origin ID (R5, R64). -/
def ballotStamp (f : Frame) (b : Ballot) : Stamp :=
  { epoch := f.epoch, count := b.count, id := f.origin }

/-- The lease identity an ANNOUNCE carries (R80). -/
def announceIdentity (f : Frame) (a : Announce) : Stamp :=
  { epoch := a.leaseEpoch, count := a.count, id := f.origin }

/-- The lease identity a RELEASE names (R84). -/
def releaseIdentity (r : Release) : Stamp :=
  { epoch := r.leaseEpoch, count := r.count, id := r.holder }

/-- The key of a CENSUS (R132). -/
def censusKey (f : Frame) : Key := { epoch := f.epoch, origin := f.origin }

/-- The range at bytes `i` and `i + 5`, 5 bytes each. -/
def rangeAt (bs : List Byte) (i : Nat) : Range :=
  { first := BitVec.ofNat 40 (fieldAt bs i 5), last := BitVec.ofNat 40 (fieldAt bs (i + 5) 5) }

/-- The transactions of the host port (R165). -/
inductive Transaction where
  | writeCommand
  | readResult
  | readStatus
  | writeIndex
  | readWindow
  | stationReset
  deriving DecidableEq, Repr

/-- Transaction codes (11.3). -/
def transactionCode : Transaction → Byte
  | .writeCommand => 0x10
  | .readResult => 0x20
  | .readStatus => 0x21
  | .writeIndex => 0x30
  | .readWindow => 0x31
  | .stationReset => 0xA5

/-- The transaction of a code byte, if it is a transaction code (R165). -/
def transactionOf (code : Byte) : Option Transaction :=
  [Transaction.writeCommand, .readResult, .readStatus, .writeIndex, .readWindow, .stationReset].find?
    fun t => transactionCode t == code

/-- An event of a transaction's row: the code byte is the row's, or no transaction code at all, which any row may
meet (R165; notes/assumptions/2.md). -/
def eventFits (k : Transaction) : SpiEvent → Bool
  | .code b => transactionOf b == some k || transactionOf b == none
  | _ => true

/-- Bytes that a transaction needs after its code byte (R165). -/
def bytesNeeded : Transaction → Nat
  | .writeCommand => 20
  | .readResult => 16
  | .readStatus => 4
  | .writeIndex => 3
  | .readWindow => 8
  | .stationReset => 1

/-- The commands of the command record table (11.3). -/
inductive HostCommand where
  | configure
  | claim
  | cancel
  | release
  | renew
  | resync
  | leave
  deriving DecidableEq, Repr

/-- Command codes (11.3); a code absent from the table is no command (R185). -/
def hostCommand (code : Byte) : Option HostCommand :=
  if code = 0x01 then some .configure
  else if code = 0x40 then some .claim
  else if code = 0x41 then some .cancel
  else if code = 0x42 then some .release
  else if code = 0x43 then some .renew
  else if code = 0x50 then some .resync
  else if code = 0x51 then some .leave
  else none

/-- The fields of a CLAIM record (11.3, R185). -/
structure ClaimFields where
  noWait : Bool
  tag : Word16
  modeCode : Byte
  range : Range
  waitLimit : Word16
  deriving DecidableEq, Repr

/-- Reads a CLAIM record (11.3, R185). -/
def claimFields (bs : List Byte) : ClaimFields where
  noWait := (byteAt bs 1).getLsbD 0
  tag := BitVec.ofNat 16 (fieldAt bs 2 2)
  modeCode := byteAt bs 4
  range := rangeAt bs 5
  waitLimit := BitVec.ofNat 16 (fieldAt bs 15 2)

/-- Reads and tests a CONFIGURE record against the ranges of R151, in the order of that table
(R152, R185): `none` is BAD_CONFIG. -/
def configureFields (bs : List Byte) : Option Configuration :=
  let id := byteAt bs 1
  let term := BitVec.ofNat 16 (fieldAt bs 2 2)
  let warning := BitVec.ofNat 16 (fieldAt bs 4 2)
  let ballotLimit := byteAt bs 6
  let formationLimit := BitVec.ofNat 16 (fieldAt bs 7 2)
  let orphanHold := BitVec.ofNat 16 (fieldAt bs 9 2)
  if id ≤ 15#8 ∧ (Config.minTerm ≤ term ∧ term ≤ Config.maxTerm) ∧ warning < term
      ∧ 2#8 ≤ ballotLimit ∧ (20#16 ≤ formationLimit ∧ formationLimit ≤ 5000#16)
      ∧ formationLimit < orphanHold then
    some { stationId := id.setWidth 4, term := term, warning := warning, ballotLimit := ballotLimit,
           formationLimit := formationLimit, orphanHold := orphanHold }
  else none

/-- The window space that a WRITE_INDEX names (R185). -/
def windowSpace (b : Byte) : Option WindowSpace :=
  if b = 0x01 then some .station else if b = 0x02 then some .link
  else if b = 0x03 then some .record else none

/-- The last group of each space: 6 STATION, 1 LINK, 4 RECORD (R185). -/
def lastGroup : WindowSpace → Nat
  | .station => 6
  | .link => 1
  | .record => 4

end Sys2Proof.Machine
end

