-- ==== Sys2Proof/Machine/State.lean ====
section
/-! DEFINITION. State of the station, block by block, its value after reset, and the reasons a step can stop. -/

namespace Sys2Proof.Machine

/-- The data book gives every command an effect in every state, so no command faults: what it calls a
fault is an effect on State (R146 to R148, R160). -/
inductive Fault where
  deriving DecidableEq, Repr

/-- Why a command has no meaning. -/
inductive Refusal where
  /-- Raised by `exec` for a row of the table that has no meaning yet (no row is left). Safe: the
  machine stops. -/
  | notModelled (mnemonic : String)
  deriving DecidableEq, Repr

/-- Upstream port (R96); `sent` records what the return lane has carried since reset. -/
structure UpstreamPort where
  link : LinkState
  receiveLock : Bool
  farLock : Bool
  badRun : Nat
  advertisementOwed : Bool
  sent : List ReturnSymbol
  deriving DecidableEq, Repr

/-- Downstream port (R96); `sent` records what the forward lane has carried since reset. -/
structure DownstreamPort where
  link : LinkState
  receiveLock : Bool
  farLock : Bool
  credit : Nat
  sent : List ForwardItem
  deriving DecidableEq, Repr

/-- Frame handler (R112). -/
structure FrameHandler where
  transit : List TransitEntry
  origination : List Frame
  inSend : Option InSend
  outstanding : Word16
  arbiterPos : Nat
  deriving DecidableEq, Repr

/-- Shadow unit (R78): `fence` is the fence timer while the fence is active, `none` while it is off. -/
structure ShadowUnit where
  incomplete : Bool
  fence : Option Word16
  fenceObjected : Bool
  fenceEndDue : Bool
  deriving DecidableEq, Repr

/-- Census unit (R131); a stopped timer is `none`. -/
structure CensusUnit where
  epoch : Word32
  roster : List StationId
  previousRoster : List StationId
  bestKey : Option Key
  censusDue : Bool
  rosterDue : Option RosterDue
  retryTimer : Option Word16
  formationTimer : Option Word16
  deriving DecidableEq, Repr

/-- Station controller (R147, R162); `bypassn` is the level of the BYPASSN pin, true for high. -/
structure Controller where
  state : StationState
  configured : Bool
  config : Configuration
  leaveTimer : Option Word16
  leaveOutcome : Option LeaveOutcome
  haltCause : Option HaltCause
  stateMark : Option StateMark
  faultMark : Option FaultMark
  bypassn : Bool
  tickCounter : Nat
  deriving DecidableEq, Repr

/-- Host port (R165, R168, R172, R178); `sdo` records the whole bytes shifted out in the last transaction that
ended. -/
structure HostPort where
  commands : List CommandEntry
  nextSeq : Byte
  overrun : Bool
  results : List ResultRecord
  index : WindowIndex
  /-- The transaction in progress: CSN has fallen and not yet risen (R165). -/
  spi : Option Transfer
  sdo : List Byte
  deriving DecidableEq, Repr

/-- The whole station, and the commands that wait to be taken, first in first out. -/
structure State where
  up : UpstreamPort
  down : DownstreamPort
  fh : FrameHandler
  table : Table
  /-- The scan in progress (R63). -/
  scan : Option Scan
  /-- The claim clock (R7). -/
  clock : Word32
  shadow : ShadowUnit
  census : CensusUnit
  ctl : Controller
  host : HostPort
  /-- The level of the RESETN pin, true for high (R163). -/
  resetn : Bool
  /-- The commands that wait; no register of the part. -/
  pending : List Instr
  deriving DecidableEq, Repr

/-- All 64 slots FREE (R12). -/
def Table.allFree : Table := { slots := List.replicate 64 Slot.free, size := by simp }

/-- The state after either kind of reset, the notice STARTED with the given cause being the one record
of the result queue (R163, R164 and the reset values of R7, R12, R63, R78, R96, R112, R131, R147, R148,
R162, R168, R172, R178). -/
def State.afterReset (cause : StartCause) : State where
  up := { link := .off, receiveLock := false, farLock := false, badRun := 0,
          advertisementOwed := false, sent := [] }
  down := { link := .off, receiveLock := false, farLock := false, credit := 0, sent := [] }
  fh := { transit := [], origination := [], inSend := none, outstanding := 0, arbiterPos := 0 }
  table := Table.allFree
  scan := none
  clock := 0
  shadow := { incomplete := false, fence := none, fenceObjected := false, fenceEndDue := false }
  census := { epoch := 0, roster := [], previousRoster := [], bestKey := none, censusDue := false,
              rosterDue := none, retryTimer := none, formationTimer := none }
  ctl := { state := .unconfigured, configured := false,
           config := { stationId := 0, term := 0, warning := 0, ballotLimit := 0,
                       formationLimit := 0, orphanHold := 0 },
           leaveTimer := none, leaveOutcome := none, haltCause := none,
           stateMark := none, faultMark := none, bypassn := false, tickCounter := 0 }
  host := { commands := [], nextSeq := 0, overrun := false, results := [.started cause],
            index := { space := .station, slot := 0, group := 0 }, spi := none, sdo := [] }
  resetn := true
  pending := []

/-- The part while RESETN is held low: every item at its reset value, the ports OFF and BYPASSN low; no notice has
been placed, so INTN is high, and no transaction is in progress (R163, R172). -/
def State.heldReset : State :=
  { State.afterReset .pin with
    host := { (State.afterReset .pin).host with results := [] }
    resetn := false }

/-- The machine right after RESETN has risen (R163). -/
def State.reset : State := State.afterReset .pin

end Sys2Proof.Machine
end

