-- ==== Sys2Proof/Machine/Table.lean ====
section
/-! DEFINITION. Reading and writing the lease table: single slots, lookups and passes over the table, each
under the check of R28. -/

namespace Sys2Proof.Machine

/-- The slot of a number (R12). -/
def Table.get (t : Table) (i : SlotNo) : Slot := t.slots[i.val]'(by rw [t.size]; exact i.isLt)

/-- The table with one slot written. -/
def Table.set (t : Table) (i : SlotNo) (sl : Slot) : Table :=
  { slots := t.slots.set i.val sl, size := by simp [t.size] }

/-- The table with every slot rewritten by a function of its number and content. -/
def Table.mapIdx (t : Table) (f : SlotNo → Slot → Slot) : Table :=
  { slots := (List.finRange 64).map fun i => f i (t.get i), size := by simp }

/-- The lowest slot that satisfies a test, in slot order. -/
def Table.find (t : Table) (p : SlotNo → Slot → Bool) : Option SlotNo :=
  (List.finRange 64).find? fun i => p i (t.get i)

/-- The number of records in use that satisfy a test. -/
def Table.count (t : Table) (p : Record → Bool) : Nat :=
  (List.finRange 64).countP fun i => (t.get i).content.any p

/-- Whether a slot holds a record that satisfies a test. -/
def Slot.holds (sl : Slot) (p : Record → Bool) : Bool := sl.content.any p

/-- An event that reads the table: it ran to its end, or it stopped at the read of a slot that met a
check error, with the changes made before that read (R28). -/
inductive Reading where
  | done (s : State)
  | failed (slot : SlotNo) (s : State)

/-- What a lookup in slot order finds. -/
inductive Lookup where
  | absent
  | found (slot : SlotNo) (r : Record)
  | failed (slot : SlotNo)

/-- The next step of an event, taken when the steps before it met no check error. -/
def Reading.andThen (r : Reading) (k : State → Reading) : Reading :=
  match r with
  | .done s => k s
  | .failed i s => .failed i s

/-- The lowest slot in use that a pass reads and whose read meets a check error. -/
def firstBad (reads : Record → Bool) (t : Table) : Option SlotNo :=
  t.find fun _ sl => sl.damaged && sl.holds reads

/-- A slot whose record, if any, is replaced (`some`) or freed (`none`). -/
def rewriteSlot (f : SlotNo → Record → Option Record) (i : SlotNo) (sl : Slot) : Slot :=
  match sl.content with
  | none => sl
  | some r => { sl with content := f i r }

/-- A pass over the slots in use, in slot order: it reads the records that `reads` names, which are the
ones `f` acts on, and stops at the first read that meets a check error (R28). That a pass reads no other slot, and
that it reads the lowest first, so that the changes below a bad slot stand and those above do not come about, is the
model's choice (notes/assumptions/5.md). -/
def passOver (reads : Record → Bool) (f : SlotNo → Record → Option Record) (s : State) : Reading :=
  match firstBad reads s.table with
  | none => .done { s with table := s.table.mapIdx (rewriteSlot f) }
  | some e =>
    .failed e { s with table := s.table.mapIdx fun i sl => if i < e then rewriteSlot f i sl else sl }

/-- A lookup among the slots in use, in slot order, that ends at the first record satisfying the test or
at the first read that meets a check error (R28). Which slots it reads, and that it reads the lowest first, is the model's
choice (notes/assumptions/5.md). -/
def lookup (p : Record → Bool) (s : State) : Lookup :=
  match s.table.find fun _ sl => sl.holds fun r => sl.damaged || p r with
  | none => .absent
  | some i =>
    match (s.table.get i).damaged, (s.table.get i).content with
    | true, _ => .failed i
    | false, some r => .found i r
    | false, none => .absent

/-- The record of a slot is written, with its check value (R28). -/
def writeRecord (i : SlotNo) (r : Record) (s : State) : State :=
  { s with table := s.table.set i { content := some r, damaged := false } }

/-- A slot is freed (R26). -/
def freeSlot (i : SlotNo) (s : State) : State := { s with table := s.table.set i Slot.free }

/-- The lowest FREE slot (R17). -/
def lowestFree (s : State) : Option SlotNo := s.table.find fun _ sl => sl.content.isNone

/-- Number of own records in use (R18). -/
def ownCount (s : State) : Nat := s.table.count fun r => r.kind == .own

/-- Number of ORPHANED shadows (R148). -/
def orphanCount (s : State) : Nat :=
  s.table.count fun r => r.kind == .shadow && r.state == .orphaned

end Sys2Proof.Machine
end

