-- ==== Sys2Proof/Machine/Records.lean ====
section
/-! DEFINITION. What the events of chapters 2, 3 and 5 do to one record of the lease table. -/

namespace Sys2Proof.Machine

/-- Outside ACTIVE and LEAVING an event that would set a due mark on a record sets none (R21), and the
wake rule has no effect (R46). -/
def dueAllowed (st : StationState) : Bool := st == .active || st == .leaving

/-- The due mark an event sets in a station state (R21). -/
def dueIn (st : StationState) (d : Due) : Option Due := if dueAllowed st then some d else none

/-- A notice mark is set; it takes the place of an older one, with REPLACED (R24). -/
def setNotice (n : Notice) (r : Record) : Record :=
  { r with notice := some { notice := n, replaced := r.notice.isSome } }

/-- Entry to WAITING: timer, due and release-seen go (R15, R16, R47); the first entry sets the notice
WAITING with its cause (R33). -/
def enterWaiting (cause : WaitCause) (r : Record) : Record :=
  let w := { r with state := .waiting, waitCause := some cause, mainTimer := none, due := none,
                    releaseSeen := false }
  if r.waitingReported then w else { setNotice (.waiting cause) w with waitingReported := true }

/-- A new issue (R37). -/
def newIssue (r : Record) : Record :=
  { r with issue := r.issue + 1, state := .pending, waitCause := none, mainTimer := none,
           releaseSeen := false, due := some .ballot }

/-- A genuine return without objector: the record becomes GRANTED (R42). -/
def grantRecord (term : Word16) (r : Record) : Record :=
  setNotice .granted
    { r with state := .granted, mainTimer := some term, waitLimit := none, waitCause := none,
             releaseSeen := false, due := some (.announce .grant), lossCount := 0 }

/-- First three steps of an own record's entry into RETIRED: outcome, due and notice (R25, R55). -/
def retireOwn (st : StationState) (out : RecOutcome) (reason : ReleaseReason)
    (notice : Option Notice) (r : Record) : Record :=
  let q := { r with state := .retired, outcome := some out, mainTimer := none, waitLimit := none,
                    waitCause := none, releaseSeen := false,
                    due := if r.state = .granted ∨ r.objected then dueIn st (.release reason) else none }
  match notice with
  | none => q
  | some n => setNotice n q

/-- A shadow enters RETIRED; a RELEASE becomes due when its objected mark is set (R25, R84, R86). -/
def retireShadow (st : StationState) (out : RecOutcome) (reason : ReleaseReason) (r : Record) : Record :=
  { r with state := .retired, outcome := some out, mainTimer := none,
           due := if r.objected then dueIn st (.release reason) else none }

/-- A RETIRED record with neither mark is freed (R26). -/
def keepUnlessDone (r : Record) : Option Record :=
  if r.state = .retired ∧ r.due = none ∧ r.notice = none then none else some r

/-- An own record that is PENDING or WAITING. -/
def isOpenClaim (r : Record) : Bool := r.kind == .own && (r.state == .pending || r.state == .waiting)

/-- An own record that is not RETIRED. -/
def isOpenOwn (r : Record) : Bool := r.kind == .own && r.state != .retired

/-- A record that holds a due mark. -/
def holdsDue (r : Record) : Bool := r.due.isSome

/-- The wake rule on one record, whatever either mode: `hit` says whether a released range overlaps a range (R46). -/
def wakeRecord (hit : Range → Bool) (r : Record) : Record :=
  if r.kind = .own ∧ hit r.range then
    match r.state with
    | .waiting => newIssue r
    | .pending => { r with releaseSeen := true }
    | _ => r
  else r

/-- Entry to FORMING on one own record: PENDING turns WAITING(EPOCH), release-seen is cleared (R56). -/
def formingOwn (r : Record) : Record :=
  if r.kind = .own then
    if r.state = .pending then enterWaiting .epoch r else { r with releaseSeen := false }
  else r

/-- Clearing of the due mark at entry to FORMING, ISOLATED or DETACHED; a RETIRED record with no notice mark is
then freed (R22, R26). -/
def clearDue (r : Record) : Option Record := keepUnlessDone { r with due := none }

/-- Every shadow is freed at entry to ISOLATED and DETACHED (R27, R94). -/
def dropShadow (r : Record) : Option Record := if r.kind = .shadow then none else some r

/-- Entry to ISOLATED on one own record: it retires with the notice of R59 and no RELEASE due. -/
def isolateOwn (r : Record) : Record :=
  if r.kind = .own then
    if r.state = .granted then
      retireOwn .isolated (.revoked .isolation) .released (some (.revoked .isolation)) r
    else if r.state = .pending ∨ r.state = .waiting then
      retireOwn .isolated (.failed .ringFault) .withdrawn (some (.failed .ringFault)) r
    else r
  else r

/-- LEAVE on one own record (R60). -/
def leaveRecord (r : Record) : Record :=
  if r.kind = .own then
    if r.state = .granted then
      retireOwn .leaving (.revoked .leave) .released (some (.revoked .leave)) r
    else if r.state = .pending ∨ r.state = .waiting then
      retireOwn .leaving (.failed .leave) .withdrawn (some (.failed .leave)) r
    else r
  else r

/-- Entry to HALTED on one slot: only a RETIRED own record that holds a notice mark is kept, without its
due; a slot whose content and check value disagree is freed (R29). -/
def haltSlot (sl : Slot) : Slot :=
  match sl.damaged, sl.content with
  | false, some r =>
    if r.kind = .own ∧ r.state = .retired ∧ r.notice.isSome then
      { content := some { r with due := none }, damaged := false }
    else Slot.free
  | _, _ => Slot.free

/-- An own record blocks a claim with the given stamp, or objects to a ballot with it: GRANTED always,
PENDING or WAITING when its stamp precedes; an ORPHANED shadow always (R35, R68). -/
def standsInTheWay (stamp : Stamp) (range : Range) (mode : Mode) (r : Record) : Bool :=
  conflicts r.range r.mode range mode &&
    match r.kind, r.state with
    | .own, .granted => true
    | .own, .pending => precedes r.identity stamp
    | .own, .waiting => precedes r.identity stamp
    | .shadow, .orphaned => true
    | _, _ => false

/-- The new own record of a CLAIM, as PENDING with its BALLOT due (R17, R36). -/
def newClaim (stamp : Stamp) (mode : Mode) (range : Range) (tag : Word16) (noWait : Bool)
    (waitLimit : Word16) : Record where
  kind := .own
  state := .pending
  range := range
  mode := mode
  identity := stamp
  objected := false
  due := some .ballot
  mainTimer := none
  tag := tag
  noWait := noWait
  waitLimit := if waitLimit = 0 then none else some waitLimit
  issue := 0
  lossCount := 0
  releaseSeen := false
  waitCause := none
  notice := none
  outcome := none
  waitingReported := false
  announcedTerm := 0

/-- The new shadow of an ANNOUNCE (R17, R82). -/
def newShadow (identity : Stamp) (a : Announce) : Record where
  kind := .shadow
  state := .live
  range := a.range
  mode := modeOfByte a.mode
  identity := identity
  objected := false
  due := none
  mainTimer := some (clampTerm a.term)
  tag := 0
  noWait := false
  waitLimit := none
  issue := 0
  lossCount := 0
  releaseSeen := false
  waitCause := none
  notice := none
  outcome := none
  waitingReported := false
  announcedTerm := clampTerm a.term

/-- Refresh of a LIVE or ORPHANED shadow (R81). -/
def refreshShadow (term : Word16) (r : Record) : Record :=
  { r with state := .live, mainTimer := some term, announcedTerm := term }

/-- A count-down by one that stays at 0 until its expiry is taken (R16; notes/assumptions/7.md). -/
def countDown (t : Word16) : Word16 := if t = 0 then 0 else t - 1

/-- The tick at one own record: main timer and wait limit count down; a GRANTED record whose term is
brought to a warning level other than 0 gets TERM_LOW (R32, R49). -/
def tickOwn (warning : Word16) (r : Record) : Record :=
  if r.kind = .own then
    let q := { r with mainTimer := r.mainTimer.map countDown, waitLimit := r.waitLimit.map countDown }
    match r.mainTimer with
    | some t =>
      if r.state = .granted ∧ warning ≠ 0 ∧ t ≠ 0 ∧ countDown t = warning then setNotice .termLow q
      else q
    | none => q
  else r

/-- The tick at one shadow (R79). -/
def tickShadow (r : Record) : Record :=
  if r.kind = .shadow then { r with mainTimer := r.mainTimer.map countDown } else r

end Sys2Proof.Machine
end

