-- ==== Sys2Proof/Machine/Flags.lean ====
section
/-! DEFINITION. The conditions and flags the blocks compute from State: the pins, the status byte, the
conditions of the arbiters, of due service and of the leave drain. -/

namespace Sys2Proof.Machine

/-- This station's ID (R151). -/
def State.stationId (s : State) : StationId := s.ctl.config.stationId

/-- The level of INTN, true for high: low while the result queue holds a record (R172). While RESETN is held low the
queue is empty (`State.heldReset`), so INTN is high. -/
def State.intn (s : State) : Bool := s.host.results.isEmpty

/-- Station state codes (11.3). -/
def stateCode : StationState → Byte
  | .unconfigured => 0
  | .forming => 1
  | .active => 2
  | .isolated => 3
  | .leaving => 4
  | .detached => 5
  | .halted => 6

/-- The status byte (R166, 11.3). -/
def statusByte (s : State) : Byte :=
  flagBit (!s.host.results.isEmpty) 0x80
    ||| flagBit (s.host.commands.length == Config.commandDepth) 0x40
    ||| flagBit s.host.overrun 0x20
    ||| stateCode s.ctl.state

/-- A station in the ring: FORMING, ACTIVE, ISOLATED or LEAVING (chapter 9, R110). -/
def inRing : StationState → Bool
  | .forming => true
  | .active => true
  | .isolated => true
  | .leaving => true
  | _ => false

/-- FORMING or ISOLATED: the states in which the census unit is at work (R135, R144). -/
def formingOrIsolated (st : StationState) : Bool := st == .forming || st == .isolated

/-- A port whose symbols are read (R100). -/
def readsSymbols (l : LinkState) : Bool := l == .creditWait || l == .up

/-- The fence is active (R78). -/
def State.fenceActive (s : State) : Bool := s.shadow.fence.isSome

/-- Some record holds a due mark. -/
def anyDue (s : State) : Bool := (s.table.find fun _ sl => sl.holds (·.due.isSome)).isSome

/-- The slot whose notice mark is drained next (R173). -/
def noticeSlot (s : State) : Option SlotNo := s.table.find fun _ sl => sl.holds (·.notice.isSome)

/-- The drain condition (R157). -/
def drainHolds (s : State) : Bool :=
  ownCount s == 0 && !anyDue s && !s.census.censusDue && s.census.rosterDue.isNone
    && !s.shadow.fenceEndDue && s.fh.origination.isEmpty && s.fh.outstanding == 0

/-- A place of the result queue is free (R173). -/
def placeFree (s : State) : Bool := s.host.results.length < Config.resultDepth

/-- The arbiter grants a record notice mark: a place is free and no station mark is held (R173). -/
def recordGranted (s : State) : Bool :=
  placeFree s && s.ctl.stateMark.isNone && s.ctl.faultMark.isNone

/-- The arbiter grants the command handler: a place is free and no mark is held (R173). R53 and R176 also speak of a CANCEL
taken while its record holds an undrained notice, an order that R173 excludes; that R173 is followed is the model's choice
(notes/assumptions/28.md). -/
def commandGranted (s : State) : Bool := recordGranted s && (noticeSlot s).isNone

/-- Both ports are UP (R125). -/
def bothUp (s : State) : Bool := s.up.link == .up && s.down.link == .up

/-- The frame in hand (R112). -/
def handFrame (s : State) : Option Frame :=
  (s.fh.transit.find? fun e => e.cond == .inHand).map (·.frame)

/-- The oldest transit frame, when it is ready and credit is 1 or more (R128). -/
def transitCandidate (s : State) : Option Frame :=
  match s.fh.transit with
  | [] => none
  | e :: _ => if e.cond = .ready ∧ 1 ≤ s.down.credit then some e.frame else none

/-- The head of the origination queue, when credit is 2 or more (R128). -/
def originationCandidate (s : State) : Option Frame :=
  match s.fh.origination with
  | [] => none
  | f :: _ => if 2 ≤ s.down.credit then some f else none

/-- The downstream port can begin a send: UP with no frame in send (R128). -/
def canSend (s : State) : Bool := s.down.link == .up && s.fh.inSend.isNone

/-- What the station is owed next by due service (R124). -/
inductive DueChoice where
  | census
  | roster (d : RosterDue)
  | fenceEnd
  | record (slot : SlotNo)

/-- The due chosen for service in the order of R124; a due is presented in the states of R125, record
dues in ACTIVE and LEAVING alone. -/
def nextDue (s : State) : Option DueChoice :=
  if s.census.censusDue ∧ formingOrIsolated s.ctl.state ∧ bothUp s then some .census
  else match s.census.rosterDue, formingOrIsolated s.ctl.state with
    | some d, true => some (.roster d)
    | _, _ =>
      if dueAllowed s.ctl.state then
        if s.shadow.fenceEndDue then some .fenceEnd
        else (s.table.find fun _ sl => sl.holds (·.due.isSome)).map .record
      else none

end Sys2Proof.Machine
end

