-- ==== Sys2Proof/Machine/Ops.lean ====
section
/-! DEFINITION. The shared operations of the station: queues and flushes, marks, the table check and the
halt, the wake rule and retirements, the local scan, and the entries to the station states. -/

namespace Sys2Proof.Machine

/-! ### Lanes and queues -/

/-- `n` TOKENs are returned when the upstream port is UP (R103). -/
def returnTokens (n : Nat) (s : State) : State :=
  { s with up := { s.up with
      sent := if s.up.link = .up then s.up.sent ++ List.replicate n .token else s.up.sent } }

/-- A send in progress is cut off on the lane (R95, R130). -/
def cutSend (s : State) : State :=
  { s with fh := { s.fh with inSend := none },
           down := { s.down with
             sent := s.down.sent ++ (s.fh.inSend.map fun x => .cutOff x.bytes).toList } }

/-- A frame in send that came from the given queue has left its queue (R121, R123). -/
def leaveQueue (src : SendSource) (x : InSend) : InSend :=
  if x.source = src then { x with left := true } else x

/-- The transit queue is flushed: tokens when the upstream port is UP, any scan abandoned, the arbiter
position back to 0 (R76, R109, R121). -/
def flushTransit (s : State) : State :=
  let n := s.fh.transit.length
  let t := returnTokens n s
  { t with fh := { t.fh with transit := [], inSend := t.fh.inSend.map (leaveQueue .transit),
                             arbiterPos := 0 },
           scan := none }

/-- The origination queue is flushed with every entry (R123). -/
def flushOrigination (s : State) : State :=
  { s with fh := { s.fh with origination := [],
                             inSend := s.fh.inSend.map (leaveQueue .origination) } }

/-- Both ports enter OFF: every item takes its reset value and a send is cut off (R95, R96, R98). -/
def portsOff (s : State) : State :=
  let t := cutSend s
  { t with up := { link := .off, receiveLock := false, farLock := false, badRun := 0,
                   advertisementOwed := false, sent := t.up.sent },
           down := { link := .off, receiveLock := false, farLock := false, credit := 0,
                     sent := t.down.sent } }

/-- The frame in hand leaves the transit queue, its slot's TOKEN is returned (R103, R113). -/
def dropHand (s : State) : State :=
  let n := s.fh.transit.length
  let kept := s.fh.transit.filter fun e => e.cond != .inHand
  returnTokens (n - kept.length) { s with fh := { s.fh with transit := kept } }

/-- The frame in hand is marked ready, as the given frame with 1 added to its hop count (R120). -/
def readyHand (f : Frame) (s : State) : State :=
  { s with fh := { s.fh with transit := s.fh.transit.map fun e =>
      if e.cond = .inHand then { frame := { f with hop := f.hop + 1 }, cond := .ready } else e } }

/-- A scan in progress is abandoned and its ballot discarded, as a filtered frame is (R74, R76). -/
def abandonScan (s : State) : State :=
  if s.scan.isSome then dropHand { s with scan := none } else s

/-! ### Station notices -/

/-- The STATE mark is set with a notice; an older one is replaced (R148). -/
def markState (n : StateNotice) (s : State) : State :=
  { s with ctl := { s.ctl with
      stateMark := some { notice := n, replaced := s.ctl.stateMark.isSome } } }

/-- The STATE mark is set with the values as they stand (R148). -/
def markStateNow (st : StationState) (out : Option LeaveOutcome) (s : State) : State :=
  markState { state := st, epoch := s.census.epoch, members := s.census.roster.length,
              orphans := orphanCount s, fence := s.fenceActive, outcome := out } s

/-- The FAULT mark is set; an older one is replaced (R148). -/
def markFault (c : FaultCause) (s : State) : State :=
  { s with ctl := { s.ctl with faultMark := some { cause := c, replaced := s.ctl.faultMark.isSome } } }

/-! ### Halting and the table check -/

/-- INCOMPLETE, the fence, its mark and the FENCE_END due are cleared (R94). -/
def clearShadowUnit (s : State) : State :=
  { s with shadow := { incomplete := false, fence := none, fenceObjected := false,
                       fenceEndDue := false } }

/-- Both census timers are stopped and both dues cleared (R145). -/
def stopCensus (s : State) : State :=
  { s with census := { s.census with censusDue := false, rosterDue := none, retryTimer := none,
                                     formationTimer := none } }

/-- The entry to HALTED (R29, R160), from any state but HALTED. -/
def enterHalted (cause : HaltCause) (s : State) : State :=
  let s := { s with ctl := { s.ctl with state := .halted, haltCause := some cause } }
  let s := flushTransit (portsOff s)
  let s := { s with ctl := { s.ctl with bypassn := false } }
  let s := flushOrigination s
  let s := { s with table := s.table.mapIdx fun _ sl => haltSlot sl }
  let s := stopCensus (clearShadowUnit s)
  let s := { s with ctl := { s.ctl with leaveTimer := none },
                    host := { s.host with commands := [] } }
  markFault (.halt cause) s

/-- A read of the slot met a check error: the station halts with TABLE_CHECK and the slot is freed; in
HALTED the slot is freed with any notice mark it held and nothing else changes, the first cause
standing (R28, R29, R147, R161). -/
def tableCheck (i : SlotNo) (s : State) : State :=
  if s.ctl.state = .halted then freeSlot i s else enterHalted .tableCheck s

/-- The end of an event that read the table (R28). -/
def Reading.settle : Reading → State
  | .done s => s
  | .failed i s => tableCheck i s

/-! ### The wake rule and retirements -/

/-- The wake rule: it takes the own records whose range `hit` accepts (R46). It reads the own PENDING and WAITING
records alone, in slot order; the data book says neither which slots it reads nor in what order
(notes/assumptions/5.md). -/
def wakeOver (hit : Range → Bool) (s : State) : Reading :=
  if dueAllowed s.ctl.state then
    passOver isOpenClaim (fun _ r => some (wakeRecord hit r)) s
  else .done s

/-- The wake rule for a released range (R46). -/
def wake (range : Range) (s : State) : Reading := wakeOver (overlaps · range) s

/-- A slot whose record is RETIRED and holds neither mark is freed (R26). -/
def freeIfDone (i : SlotNo) (s : State) : State :=
  { s with table :=
      if (s.table.get i).holds fun r => (keepUnlessDone r).isNone then s.table.set i Slot.free
      else s.table }

/-- An own record's entry into RETIRED: outcome, due, notice, the wake rule with its range, and the
freeing when it holds neither mark (R55). -/
def retireSlot (i : SlotNo) (r : Record) (out : RecOutcome) (reason : ReleaseReason)
    (notice : Option Notice) (s : State) : Reading :=
  (wake r.range (writeRecord i (retireOwn s.ctl.state out reason notice r) s)).andThen
    fun t => .done (freeIfDone i t)

/-- Ballot loss: a new issue, or at the fourth loss retirement with FAILED(RING_FAULT) (R45). -/
def ballotLoss (i : SlotNo) (r : Record) (s : State) : Reading :=
  if r.lossCount < Config.lossLimit then
    .done (writeRecord i (newIssue { r with lossCount := r.lossCount + 1 }) s)
  else retireSlot i r (.failed .ringFault) .withdrawn (some (.failed .ringFault)) s

/-! ### The local scan -/

/-- Outcome of the local scan. -/
inductive ScanOutcome where
  | blocked
  | clear
  | failed (slot : SlotNo)
  deriving DecidableEq, Repr

/-- The local scan for one own claim: an active fence blocks without a read; otherwise every slot in use
but the claim's own is read in slot order (R35). -/
def localScan (own : SlotNo) (stamp : Stamp) (range : Range) (mode : Mode) (s : State) : ScanOutcome :=
  if s.fenceActive then .blocked
  else match s.table.find fun i sl => i != own && sl.damaged && sl.content.isSome with
    | some i => .failed i
    | none =>
      if (s.table.find fun i sl => i != own && sl.holds (standsInTheWay stamp range mode)).isSome
      then .blocked else .clear

/-! ### Entries to the station states -/

/-- The census unit proposes an epoch with this station's ID as key (R133, R143). -/
def proposeEpoch (epoch : Word32) (s : State) : State :=
  { s with census := { s.census with
      bestKey := some { epoch := epoch, origin := s.stationId }, rosterDue := none,
      censusDue := true, retryTimer := none } }

/-- Steps 2 and 3 of the entry to FORMING at the lease table: the own records, then the dues (R149;
notes/assumptions/5.md). -/
def formingTable (s : State) : Reading :=
  (passOver isOpenOwn (fun _ r => some (formingOwn r)) s).andThen (passOver holdsDue fun _ r => clearDue r)

/-- Steps 1 to 4 of the entry to FORMING from ACTIVE and the start of the formation timer (R149). R149 gives the
abandonment of a scan no place among its steps: it follows the table passes here, and a check error that one of them
meets leaves it to the entry to HALTED (R74, R76, R160; the model's choice, notes/assumptions/24.md). -/
def formingBase (s : State) : Reading :=
  (formingTable { s with ctl := { s.ctl with state := .forming } }).andThen
    fun s =>
      let s := flushOrigination (abandonScan s)
      .done { s with
        shadow := { s.shadow with fenceEndDue := false },
        census := { s.census with censusDue := false, rosterDue := none, retryTimer := none,
                                  formationTimer := some s.ctl.config.formationLimit } }

/-- The entry to FORMING from ACTIVE by a port loss, RESYNC or clock exhaustion: the census unit proposes
the epoch plus 1, or the station halts with EPOCH_EXHAUSTED once the entry's steps stand (R133, R149,
R160; notes/assumptions/17.md). -/
def enterForming (s : State) : Reading :=
  (formingBase s).andThen fun s =>
    if s.census.epoch = Config.maxWord32 then
      .done (enterHalted .epochExhausted (markStateNow .forming none s))
    else .done (markStateNow .forming none (proposeEpoch (s.census.epoch + 1) s))

/-- This station's own frames that the entry to ISOLATED flushes before their send began (R145). -/
def unsentAtIsolation (s : State) : List Frame :=
  match s.fh.inSend with
  | some x => if x.source = .origination ∧ ¬ x.left then s.fh.origination.drop 1 else s.fh.origination
  | none => s.fh.origination

/-- A CENSUS with the given key. -/
def isCensusOf (k : Option Key) (f : Frame) : Bool :=
  match f.body with
  | .census _ => some (censusKey f) == k
  | _ => false

/-- The ROSTER due that a queued ROSTER stands for. -/
def rosterDueOf (f : Frame) : Option RosterDue :=
  match f.body with
  | .roster members => some { epoch := f.epoch, members := members }
  | _ => none

/-- At entry to ISOLATED a CENSUS due and a ROSTER due are kept, or set again when their frame is flushed
unsent (R145). -/
def restoreCensusDues (s : State) : State :=
  { s with census := { s.census with
      censusDue := s.census.censusDue || (unsentAtIsolation s).any (isCensusOf s.census.bestKey),
      rosterDue := s.census.rosterDue.or (s.fh.origination.findSome? rosterDueOf) } }

/-- Steps 2 to 4 of the entry to ISOLATED at the lease table: the dues, then the own records, then the shadows (R150).
A check error at one step leaves the steps before it standing (R28, R160; notes/assumptions/5.md). -/
def isolateTable (s : State) : Reading :=
  ((passOver holdsDue (fun _ r => clearDue r) s).andThen
    (passOver isOpenOwn fun _ r => some (isolateOwn r))).andThen
    (passOver (·.kind == .shadow) fun _ r => dropShadow r)

/-- The entry to ISOLATED (R150). -/
def enterIsolated (s : State) : Reading :=
  let s := { s with ctl := { s.ctl with state := .isolated },
                    census := { s.census with formationTimer := none } }
  let s := flushOrigination (restoreCensusDues s)
  (isolateTable s).andThen fun s =>
    .done (markStateNow .isolated none (clearShadowUnit s))

/-- Steps 3 and 4 of the entry to DETACHED at the lease table: the dues, then the shadows (R159;
notes/assumptions/5.md). -/
def detachTable (s : State) : Reading :=
  (passOver holdsDue (fun _ r => clearDue r) s).andThen
    (passOver (·.kind == .shadow) fun _ r => dropShadow r)

/-- The entry to DETACHED with a leave outcome (R158, R159). -/
def enterDetached (out : LeaveOutcome) (s : State) : Reading :=
  let s := { s with ctl := { s.ctl with state := .detached, leaveTimer := none,
                                        leaveOutcome := some out } }
  let s := flushTransit (portsOff s)
  let s := flushOrigination { s with ctl := { s.ctl with bypassn := false } }
  (detachTable s).andThen fun s =>
    .done (markStateNow .detached (some out) (stopCensus (clearShadowUnit s)))

/-- What the departure of a port from UP does to the station state (R109). -/
def stationAfterPortLoss (s : State) : Reading :=
  match s.ctl.state with
  | .active => enterForming s
  | .leaving => enterDetached .interrupted s
  | _ => .done s

/-- REBASE goes out, behind a frame in send and behind an earlier REBASE that waits for that frame (R105; the last is the
model's choice, notes/assumptions/26.md). -/
def sendRebase (s : State) : State :=
  { s with fh := { s.fh with inSend := s.fh.inSend.map fun x => { x with rebases := x.rebases + 1 } },
           down := { s.down with
             sent := if s.fh.inSend.isSome then s.down.sent else s.down.sent ++ [.rebase] } }

/-- The upstream port has left UP: the transit queue is flushed, a downstream port in UP is rebased, and
the station state moves (R105, R109). -/
def upstreamLeftUp (s : State) : State :=
  let s := flushTransit s
  if s.down.link = .up then
    let s := (stationAfterPortLoss
      { s with down := { s.down with link := .creditWait, credit := 0 } }).settle
    if s.down.link = .creditWait then sendRebase s else s
  else (stationAfterPortLoss s).settle

/-- The downstream port has left UP for TRAINING: its send was cut off, the transit queue is flushed with
its tokens, and the station state moves (R101, R109). -/
def downstreamLeftUp (s : State) : State := (stationAfterPortLoss (flushTransit s)).settle

/-- The upstream port enters TRAINING; the bad-frame run is kept (R101). -/
def trainUpstream (s : State) : State :=
  { s with up := { s.up with link := .training, advertisementOwed := false } }

/-- The downstream port enters TRAINING: credit 0, a send is cut off (R95, R101). -/
def trainDownstream (s : State) : State :=
  cutSend { s with down := { s.down with link := .training, credit := 0 } }

/-! ### Adoption -/

/-- An own WAITING record. -/
def ownWaiting (r : Record) : Bool := r.kind == .own && r.state == .waiting

/-- The number of own WAITING records whose old stamps come before that of the record in slot `i`, equal
stamps standing in slot order (R9; notes/assumptions/15.md). -/
def waitingBefore (t : Table) (i : SlotNo) (r : Record) : Nat :=
  (List.finRange 64).countP fun j => (t.get j).holds fun q =>
    ownWaiting q && (precedes q.identity r.identity || (q.identity == r.identity && j < i))

/-- Adoption on one own record: WAITING is re-stamped and re-issued, GRANTED owes REANNOUNCE (R9, R37, R58). -/
def adoptOwn (t : Table) (epoch : Word32) (id : StationId) (i : SlotNo) (r : Record) : Record :=
  match r.kind, r.state with
  | .own, .waiting =>
    { newIssue r with
      identity := { epoch := epoch, count := BitVec.ofNat 32 (waitingBefore t i r + 1), id := id },
      issue := 0, lossCount := 0 }
  | .own, .granted => { r with due := some (.announce .reannounce) }
  | _, _ => r

/-- A LIVE shadow. -/
def isLive (r : Record) : Bool := r.kind == .shadow && r.state == .live

/-- Adoption on one shadow: LIVE becomes ORPHANED when its holder has left (R88). -/
def adoptShadow (previous new : List StationId) (hold : Word16) (r : Record) : Record :=
  if isLive r ∧ r.identity.id ∈ previous ∧ r.identity.id ∉ new then
    { r with state := .orphaned, mainTimer := some hold }
  else r

/-- A CENSUS frame. -/
def isCensus (f : Frame) : Bool :=
  match f.body with
  | .census _ => true
  | _ => false

/-- A CENSUS of this station in send has left the queue at adoption (R123). -/
def leaveIfCensus (x : InSend) : InSend :=
  if x.source = .origination ∧ isCensus x.frame then { x with left := true } else x

/-- The fence decision of an adoption, after the rosters are set (R89). -/
def decideFence (s : State) : State :=
  let departed := s.census.previousRoster.any fun i => !s.census.roster.contains i
  { s with shadow := { s.shadow with
      fence := if s.shadow.incomplete && departed then some s.ctl.config.orphanHold else s.shadow.fence,
      incomplete := false } }

/-- Steps 1 to 3 of adoption: the rosters and the epoch, the clock and the outstanding count, the timers,
the dues and the queued CENSUS frames, the state (R141). -/
def adoptBase (epoch : Word32) (members : List StationId) (s : State) : State :=
  { s with
    census := { s.census with epoch := epoch, roster := members, previousRoster := s.census.roster,
                              censusDue := false, rosterDue := none, retryTimer := none,
                              formationTimer := none },
    clock := 0,
    fh := { s.fh with outstanding := 0, origination := s.fh.origination.filter (!isCensus ·),
                      inSend := s.fh.inSend.map leaveIfCensus },
    ctl := { s.ctl with state := .active } }

/-- Step 4 of adoption: the own records not RETIRED are read and acted on, and the claim clock ends at the
number of re-stamped ones (R9, R58; notes/assumptions/5.md, 6.md). -/
def adoptClaims (epoch : Word32) (s : State) : Reading :=
  (passOver isOpenOwn (fun i r => some (adoptOwn s.table epoch s.stationId i r)) s).andThen fun t =>
    .done { t with clock := BitVec.ofNat 32 (s.table.count ownWaiting) }

/-- Step 5 of adoption: the LIVE shadows are read and orphaned, and the fence is decided (R88, R89;
notes/assumptions/5.md). -/
def adoptShadows (s : State) : Reading :=
  (passOver isLive (fun _ r => some (adoptShadow s.census.previousRoster s.census.roster
    s.ctl.config.orphanHold r)) s).andThen fun s => .done (decideFence s)

/-- Adoption of an epoch and a member list (R141). -/
def adopt (epoch : Word32) (members : List StationId) (s : State) : Reading :=
  ((adoptClaims epoch (adoptBase epoch members s)).andThen adoptShadows).andThen fun s =>
    .done (markStateNow .active none s)

end Sys2Proof.Machine
end

