-- ==== Sys2Proof/Machine/Ballots.lean ====
section
/-! DEFINITION. The return of own ballots (R40 to R44) and the scan of foreign ones (chapter 4). -/

namespace Sys2Proof.Machine

/-- The own record that a returning ballot matches: PENDING, same count and issue, ballot timer running
(R40). -/
def matchesReturn (b : Ballot) (r : Record) : Bool :=
  r.kind == .own && r.state == .pending && r.identity.count == b.count && r.issue == b.issue
    && r.mainTimer.isSome

/-- The visited set a genuine return carries: the roster less this station (R41). -/
def expectedVisitors (s : State) : StationSet :=
  stationSet (s.census.roster.filter (· != s.stationId))

/-- A genuine return: the loss count returns to 0, and the objector set decides (R41 to R44). -/
def genuineReturn (i : SlotNo) (b : Ballot) (r : Record) (s : State) : Reading :=
  let r := { r with lossCount := 0, mainTimer := none }
  if b.objectors = 0 then .done (writeRecord i (grantRecord s.ctl.config.term r) s)
  else if r.releaseSeen then .done (writeRecord i (newIssue r) s)
  else if r.noWait then
    retireSlot i r (.failed .conflict) .withdrawn (some (.failed .conflict)) s
  else .done (writeRecord i (enterWaiting .remote r) s)

/-- A stripped own BALLOT at the claim engine: a matching return, or stripped with no effect (R40, R41). -/
def ballotReturns (f : Frame) (b : Ballot) (s : State) : Reading :=
  if f.epoch = s.census.epoch then
    match lookup (matchesReturn b) s with
    | .absent => .done s
    | .failed i => .failed i s
    | .found i r =>
      if b.visited = expectedVisitors s then genuineReturn i b r s
      else ballotLoss i { r with mainTimer := none } s
  else .done s

/-- The verdict written into the ballot: this station's bit in the visited set, and on OBJECT in the
objector set (R70). -/
def writeVerdict (id : StationId) (objects : Bool) (f : Frame) : Frame :=
  match f.body with
  | .ballot b =>
    { f with body := .ballot { b with
        visited := b.visited ||| stationBit id,
        objectors := if objects then b.objectors ||| stationBit id else b.objectors } }
  | _ => f

/-- The start of a scan: the clock is raised, then an active fence objects at once (R10, R65, R66). -/
def startScan (f : Frame) (b : Ballot) (s : State) : State :=
  let s := { s with clock := if s.clock < b.count then b.count else s.clock }
  if s.fenceActive then
    readyHand (writeVerdict s.stationId true f)
      { s with shadow := { s.shadow with fenceObjected := true } }
  else { s with scan := some { nextSlot := 0, objection := false } }

/-- A visited record objects to the ballot under scan (R68). -/
def objectsTo (f : Frame) (b : Ballot) (r : Record) : Bool :=
  standsInTheWay (ballotStamp f b) b.range (modeOfByte b.mode) r

/-- The visit of one slot: the record judged and marked when it objects, next slot advanced, and after
slot 63 the verdict (R67, R69, R70). -/
def visitSlot (f : Frame) (b : Ballot) (i : SlotNo) (objection : Bool) (s : State) : State :=
  let objects := (s.table.get i).holds (objectsTo f b)
  let s := match (s.table.get i).content with
    | some r => if objects then writeRecord i { r with objected := true } s else s
    | none => s
  if i.val + 1 < 64 then
    { s with scan := some { nextSlot := i.val + 1, objection := objection || objects } }
  else
    readyHand (writeVerdict s.stationId (objection || objects) f) { s with scan := none }

/-- SCAN_VISIT (R67). -/
def execScanVisit (s : State) : Host.Outcome State Fault Refusal :=
  .next (match s.scan, handFrame s with
    | some sc, some f =>
      match f.body with
      | .ballot b =>
        if h : sc.nextSlot < 64 then
          let i : SlotNo := ⟨sc.nextSlot, h⟩
          if (s.table.get i).damaged then tableCheck i s else visitSlot f b i sc.objection s
        else s
      | _ => s
    | _, _ => s)

end Sys2Proof.Machine
end

