-- ==== Sys2Proof/Machine/CommandHandler.lean ====
section
/-! DEFINITION. The command handler: taking the oldest command record, admission and the completion
(R20, R154, R170, R171, R173). -/

namespace Sys2Proof.Machine

/-- A completion as the owning block forms it (R171). -/
structure Completion where
  code : CompletionCode
  slot : Byte
  tag : Word16
  deriving DecidableEq, Repr

/-- The slot field of a completion that carries no slot (R171). -/
def noSlot : Byte := 255

/-- What a command that names a slot finds there (R20). -/
inductive Named where
  | free
  | shadow
  | own (slot : SlotNo) (r : Record)
  | failed (slot : SlotNo)

/-- Reading the slot a command names; a number above 63 is reported as FREE without a read (R20, R28). -/
def namedSlot (b : Byte) (s : State) : Named :=
  if h : b.toNat < 64 then
    let i : SlotNo := ⟨b.toNat, h⟩
    match (s.table.get i).damaged, (s.table.get i).content with
    | true, _ => .failed i
    | false, none => .free
    | false, some r => if r.kind = .own then .own i r else .shadow
  else .free

/-- A command whose event read the table: a check error turns its completion into NOT_ACTIVE and halts
the station (R28). -/
def finishCommand (c failed : Completion) : Reading → Completion × State
  | .done s => (c, s)
  | .failed i s => ({ failed with code := .notActive }, tableCheck i s)

/-- A command that names a slot, given what it does to an own record there (R20, R171). When the read of the slot meets
a check error the data book gives NOT_ACTIVE and no tag; the tag 0 is the model's choice (R28;
notes/assumptions/6.md). -/
def onNamedSlot (e : CommandEntry) (s : State)
    (act : SlotNo → Record → Completion → Completion × State) : Completion × State :=
  let b := byteAt e.bytes 1
  match namedSlot b s with
  | .free => ({ code := .badSlot, slot := b, tag := 0 }, s)
  | .shadow => ({ code := .badSlot, slot := b, tag := 0 }, s)
  | .failed i => ({ code := .notActive, slot := b, tag := 0 }, tableCheck i s)
  | .own i r => act i r { code := .ok, slot := b, tag := r.tag }

/-- The completion of a command refused with NOT_CONFIGURED (R154, R171). -/
def notConfigured (e : CommandEntry) : Completion :=
  match hostCommand (byteAt e.bytes 0) with
  | some .claim => { code := .notConfigured, slot := noSlot, tag := (claimFields e.bytes).tag }
  | some .cancel => { code := .notConfigured, slot := byteAt e.bytes 1, tag := 0 }
  | some .release => { code := .notConfigured, slot := byteAt e.bytes 1, tag := 0 }
  | some .renew => { code := .notConfigured, slot := byteAt e.bytes 1, tag := 0 }
  | _ => { code := .notConfigured, slot := noSlot, tag := 0 }

/-- While the configured flag is clear every known command but CONFIGURE completes with NOT_CONFIGURED
and reaches no other block (R154). -/
def ifConfigured (body : CommandEntry → State → Completion × State) (e : CommandEntry) (s : State) :
    Completion × State :=
  if s.ctl.configured then body e s else (notConfigured e, s)

/-- The completion is placed at the tail of the result queue (R170, R171). -/
def placeCompletion (e : CommandEntry) (c : Completion) (s : State) : State :=
  { s with host := { s.host with
      results := s.host.results ++ [.completion c.code (byteAt e.bytes 0) e.seq c.slot c.tag] } }

/-- The command handler takes the oldest entry when the arbiter grants it a place and the entry is of the
given kind (`none`: a code that is no command code); otherwise the event does not come about (R170,
R173; notes/assumptions/2.md). -/
def takeCommand (which : Option HostCommand) (body : CommandEntry → State → Completion × State)
    (s : State) : State :=
  match s.host.commands with
  | [] => s
  | e :: rest =>
    if commandGranted s ∧ hostCommand (byteAt e.bytes 0) = which then
      let out := body e { s with host := { s.host with commands := rest } }
      placeCompletion e out.1 out.2
    else s

end Sys2Proof.Machine
end

