-- ==== Sys2Proof/Machine/Claims.lean ====
section
/-! DEFINITION. The claim engine's commands: CLAIM, CANCEL, RELEASE and RENEW (chapter 3). -/

namespace Sys2Proof.Machine

/-- The increment of the claim clock, which stays at 2^32 − 1 (R8). -/
def stampClock (clock : Word32) : Word32 :=
  if clock = Config.maxWord32 then Config.maxWord32 else clock + 1

/-- A CLAIM that has run to its end: a count above 2^32 − 256 starts the epoch change (R11). -/
def endClaim (count : Word32) (c failed : Completion) (s : State) : Completion × State :=
  if Config.clockLimit < count then finishCommand c failed (enterForming s) else (c, s)

/-- A CLAIM that has passed its tests, with its mode and the lowest FREE slot: stamp, local scan, entry
(R8, R19, R36). -/
def enterClaim (c : ClaimFields) (mode : Mode) (i : SlotNo) (s : State) : Completion × State :=
  let count := stampClock s.clock
  let t := { s with clock := count }
  let stamp : Stamp := { epoch := s.census.epoch, count := count, id := s.stationId }
  let r := newClaim stamp mode c.range c.tag c.noWait c.waitLimit
  let ok : Completion := { code := .ok, slot := BitVec.ofNat 8 i.val, tag := c.tag }
  let conflict : Completion := { code := .conflict, slot := noSlot, tag := c.tag }
  match localScan i stamp c.range mode t with
  | .failed j => ({ conflict with code := .notActive }, tableCheck j t)
  | .clear => endClaim count ok conflict (writeRecord i r t)
  | .blocked =>
    if c.noWait then endClaim count conflict conflict t
    else endClaim count ok conflict (writeRecord i (enterWaiting .localScan r) t)

/-- CLAIM: the tests in the order of R34, then R36. -/
def claimBody (e : CommandEntry) (s : State) : Completion × State :=
  let c := claimFields e.bytes
  let refuse (code : CompletionCode) : Completion × State :=
    ({ code := code, slot := noSlot, tag := c.tag }, s)
  if s.ctl.state ≠ .active then refuse .notActive
  else if c.range.last < c.range.first then refuse .badRange
  else match claimMode c.modeCode with
    | none => refuse .badMode
    | some mode =>
      if Config.ownQuota ≤ ownCount s then refuse .quota
      else match lowestFree s with
        | none => refuse .tableFull
        | some i => enterClaim c mode i s

/-- CANCEL: an own PENDING or WAITING record retires CANCELLED (R53). -/
def cancelBody (e : CommandEntry) (s : State) : Completion × State :=
  onNamedSlot e s fun i r c =>
    if r.state = .pending ∨ r.state = .waiting then
      finishCommand c c (retireSlot i r .cancelled .withdrawn none s)
    else ({ c with code := .wrongState }, s)

/-- RELEASE: an own GRANTED record retires RELEASED (R54). -/
def releaseBody (e : CommandEntry) (s : State) : Completion × State :=
  onNamedSlot e s fun i r c =>
    if r.state = .granted then finishCommand c c (retireSlot i r .released .released none s)
    else ({ c with code := .wrongState }, s)

/-- RENEW: in ACTIVE a GRANTED record's term restarts and ANNOUNCE(RENEW) becomes due (R51). Outside ACTIVE
the command is refused; the slot is read for the tag of the completion (R171; notes/assumptions/6.md). -/
def renewBody (e : CommandEntry) (s : State) : Completion × State :=
  if s.ctl.state ≠ .active then
    match namedSlot (byteAt e.bytes 1) s with
    | .own _ r => ({ code := .notActive, slot := byteAt e.bytes 1, tag := r.tag }, s)
    | .failed i => ({ code := .notActive, slot := byteAt e.bytes 1, tag := 0 }, tableCheck i s)
    | _ => ({ code := .notActive, slot := byteAt e.bytes 1, tag := 0 }, s)
  else
    onNamedSlot e s fun i r c =>
      if r.state = .granted then
        (c, writeRecord i { r with mainTimer := some s.ctl.config.term,
                                   due := some (.announce .renew) } s)
      else ({ c with code := .wrongState }, s)

/-- CLAIM taken by the command handler (R36). -/
def execClaim (s : State) : Host.Outcome State Fault Refusal :=
  .next (takeCommand (some .claim) (ifConfigured claimBody) s)

/-- CANCEL taken by the command handler (R53). -/
def execCancel (s : State) : Host.Outcome State Fault Refusal :=
  .next (takeCommand (some .cancel) (ifConfigured cancelBody) s)

/-- RELEASE taken by the command handler (R54). -/
def execRelease (s : State) : Host.Outcome State Fault Refusal :=
  .next (takeCommand (some .release) (ifConfigured releaseBody) s)

/-- RENEW taken by the command handler (R51). -/
def execRenew (s : State) : Host.Outcome State Fault Refusal :=
  .next (takeCommand (some .renew) (ifConfigured renewBody) s)

end Sys2Proof.Machine
end

