-- ==== Sys2Proof/Machine/Census.lean ====
section
/-! DEFINITION. The census unit's judgement of CENSUS and ROSTER frames (chapter 8). -/

namespace Sys2Proof.Machine

/-- What the census unit hands back for a foreign frame (R119, R135). -/
inductive CensusVerdict where
  | halt
  | discard
  | forward (f : Frame)
  deriving DecidableEq, Repr

/-- Acceptance of a foreign key: best key, dues, retry timer (R135). -/
def acceptKey (k : Key) (c : CensusUnit) : CensusUnit :=
  { c with bestKey := some k, censusDue := false, rosterDue := none,
           retryTimer := some Config.censusRetryTicks }

/-- The frame an accepted CENSUS is forwarded as (R135; notes/assumptions/16.md). -/
def joinCensus (id : StationId) (f : Frame) (members : List StationId) : Frame :=
  if members.length = Config.maxMembers then { f with overfull := true }
  else if f.duplicate ∨ f.overfull then f
  else { f with body := .census (members ++ [id]) }

/-- The judgement of a foreign CENSUS: the first row of R135 that applies. -/
def judgeCensus (id : StationId) (f : Frame) (members : List StationId) (c : CensusUnit) :
    CensusVerdict × CensusUnit :=
  let k := censusKey f
  if id ∈ members then
    if aboveBest k c.bestKey then (.halt, c) else (.discard, c)
  else if some k = c.bestKey then (.forward { f with duplicate := true }, c)
  else if aboveBest k c.bestKey then (.forward (joinCensus id f members), acceptKey k c)
  else (.discard, c)

/-- What a returned own CENSUS gives (R137). -/
inductive OwnCensus where
  | halt
  | nothing
  | overfull
  | roster (d : RosterDue)
  deriving DecidableEq, Repr

/-- The judgement of a returned own CENSUS: the first row of R137 that applies. -/
def judgeOwnCensus (f : Frame) (members : List StationId) (c : CensusUnit) : OwnCensus :=
  let k := censusKey f
  if some k = c.bestKey then
    if f.duplicate then .halt
    else if f.overfull then .overfull
    else if 2 ≤ members.length ∧ members.length ≤ Config.maxMembers ∧ members.Nodup then
      .roster { epoch := f.epoch, members := members }
    else .nothing
  else if aboveBest k c.bestKey then .halt
  else .nothing

/-- A returned own CENSUS at the station (R137, R146). -/
def ownCensusReturns (f : Frame) (members : List StationId) (s : State) : State :=
  match judgeOwnCensus f members s.census with
  | .halt => enterHalted .duplicateId s
  | .nothing => s
  | .overfull => markFault .ringOverfull s
  | .roster d => { s with census := { s.census with rosterDue := some d } }

/-- The tests by which a foreign ROSTER is adopted (R139). -/
def rosterFits (id : StationId) (f : Frame) (members : List StationId) (c : CensusUnit) : Bool :=
  some (censusKey f) == c.bestKey && members.contains id && members.Nodup
    && 2 ≤ members.length && members.length ≤ Config.maxMembers

/-- A judged frame in hand: the station halts, or the frame is discarded or marked ready (R119, R146). -/
def applyVerdict (v : CensusVerdict) (s : State) : State :=
  match v with
  | .halt => enterHalted .duplicateId s
  | .discard => dropHand s
  | .forward f => readyHand f s

/-- A foreign CENSUS in FORMING or ISOLATED (R118, R135). -/
def foreignCensus (f : Frame) (members : List StationId) (s : State) : State :=
  let out := judgeCensus s.stationId f members s.census
  applyVerdict out.1 { s with census := out.2 }

/-- A foreign CENSUS of higher proposed epoch in ACTIVE: the entry to FORMING without a proposal, in which
the census unit judges the frame, then the STATE mark, then what the judgement gave (R117, R136, R149). -/
def formingByCensus (f : Frame) (members : List StationId) (s : State) : Reading :=
  (formingBase s).andThen fun s =>
    let out := judgeCensus s.stationId f members s.census
    .done (applyVerdict out.1 (markStateNow .forming none { s with census := out.2 }))

/-- A foreign ROSTER in FORMING or ISOLATED: adopted and forwarded, or discarded (R139). -/
def foreignRoster (f : Frame) (members : List StationId) (s : State) : Reading :=
  if rosterFits s.stationId f members s.census then
    (adopt f.epoch members s).andThen fun s => .done (readyHand f s)
  else .done (dropHand s)

end Sys2Proof.Machine
end

