-- ==== Sys2Proof/Machine/Frames.lean ====
section
/-! DEFINITION. The layout of ring frames, their reading and their check (11.2, R107, R182 to R184). -/

namespace Sys2Proof.Machine

/-- Kind codes (11.2). -/
def kindByte : Body → Byte
  | .census _ => 0x11
  | .roster _ => 0x12
  | .ballot _ => 0x21
  | .announce _ => 0x31
  | .release _ => 0x32

/-- First and last, 5 bytes each. -/
def rangeBytes (r : Range) : List Byte :=
  bigEndian 5 r.first.toNat ++ bigEndian 5 r.last.toNat

/-- The member count and the members, one per byte (R182). -/
def memberBytes (members : List StationId) : List Byte :=
  BitVec.ofNat 8 members.length :: members.map (·.setWidth 8)

/-- The body of a frame, byte for byte (11.2). -/
def bodyBytes : Body → List Byte
  | .census members => memberBytes members
  | .roster members => memberBytes members
  | .ballot b =>
    bigEndian 4 b.count.toNat ++ [b.issue, b.mode] ++ rangeBytes b.range
      ++ bigEndian 2 b.visited.toNat ++ bigEndian 2 b.objectors.toNat
  | .announce a =>
    bigEndian 4 a.leaseEpoch.toNat ++ bigEndian 4 a.count.toNat ++ [a.cause, a.mode]
      ++ rangeBytes a.range ++ bigEndian 2 a.term.toNat
  | .release r =>
    [r.holder.setWidth 8, r.reason] ++ bigEndian 4 r.leaseEpoch.toNat
      ++ bigEndian 4 r.count.toNat ++ [r.mode] ++ rangeBytes r.range

/-- The 7-byte header; reserved bits are sent 0 (11.2; notes/assumptions/10.md). -/
def headerBytes (f : Frame) : List Byte :=
  [kindByte f.body,
   flagBit f.duplicate 0x80 ||| flagBit f.overfull 0x40 ||| f.origin.setWidth 8,
   f.hop] ++ bigEndian 4 f.epoch.toNat

/-- Header and body, the bytes that the check covers (R183). -/
def frameContent (f : Frame) : List Byte := headerBytes f ++ bodyBytes f.body

/-- The frame as sent: header, body and the two check bytes, high byte first (R182, R183). -/
def frameBytes (f : Frame) : List Byte :=
  frameContent f ++ bigEndian 2 (crc16 (frameContent f)).toNat

/-- The `n` members from byte 8 on; bits 7..4 are not read (R184). -/
def membersAt (bs : List Byte) : List StationId :=
  ((bs.drop 8).take (byteAt bs 7).toNat).map (·.setWidth 4)

/-- Reads the body of a good frame at the places of 11.2 (R184); `none` for an unknown kind. -/
def readBody (bs : List Byte) : Option Body :=
  let kind := byteAt bs 0
  if kind = 0x11 then some (.census (membersAt bs))
  else if kind = 0x12 then some (.roster (membersAt bs))
  else if kind = 0x21 then
    some (.ballot { count := BitVec.ofNat 32 (fieldAt bs 7 4), issue := byteAt bs 11,
                    mode := byteAt bs 12, range := rangeAt bs 13,
                    visited := BitVec.ofNat 16 (fieldAt bs 23 2),
                    objectors := BitVec.ofNat 16 (fieldAt bs 25 2) })
  else if kind = 0x31 then
    some (.announce { leaseEpoch := BitVec.ofNat 32 (fieldAt bs 7 4),
                      count := BitVec.ofNat 32 (fieldAt bs 11 4),
                      cause := byteAt bs 15, mode := byteAt bs 16, range := rangeAt bs 17,
                      term := BitVec.ofNat 16 (fieldAt bs 27 2) })
  else if kind = 0x32 then
    some (.release { holder := (byteAt bs 7).setWidth 4, reason := byteAt bs 8,
                     leaseEpoch := BitVec.ofNat 32 (fieldAt bs 9 4),
                     count := BitVec.ofNat 32 (fieldAt bs 13 4),
                     mode := byteAt bs 17, range := rangeAt bs 18 })
  else none

/-- The number of bytes a frame of a kind has; for CENSUS and ROSTER it is fixed by the member count,
which must lie in 1..16 (R107, R182). -/
def lengthFits (bs : List Byte) : Body → Bool
  | .census _ => 1 ≤ (byteAt bs 7).toNat && (byteAt bs 7).toNat ≤ Config.maxMembers
      && bs.length == 10 + (byteAt bs 7).toNat
  | .roster _ => 1 ≤ (byteAt bs 7).toNat && (byteAt bs 7).toNat ≤ Config.maxMembers
      && bs.length == 10 + (byteAt bs 7).toNat
  | .ballot _ => bs.length == 29
  | .announce _ => bs.length == 31
  | .release _ => bs.length == 30

/-- The first test of R107: the register over all but the last two bytes equals those two; a frame
shorter than three bytes fails (R183). -/
def crcFits (bs : List Byte) : Bool :=
  3 ≤ bs.length
    && (crc16 (bs.take (bs.length - 2))).toNat == fieldAt bs (bs.length - 2) 2

/-- The checks of R107 in their order (CRC, kind, length), and the frame when all three pass. -/
def checkFrame (bs : List Byte) : Option Frame :=
  if crcFits bs then
    match readBody bs with
    | none => none
    | some body =>
      if lengthFits bs body then
        some { origin := (byteAt bs 1).setWidth 4,
               duplicate := (byteAt bs 1).getLsbD 7,
               overfull := (byteAt bs 1).getLsbD 6,
               hop := byteAt bs 2,
               epoch := BitVec.ofNat 32 (fieldAt bs 3 4),
               body := body }
      else none
  else none

end Sys2Proof.Machine
end

