-- ==== Sys2Proof/Machine/Shadows.lean ====
section
/-! DEFINITION. The shadow unit's processing of foreign ANNOUNCE and RELEASE frames (5.2, 5.3). -/

namespace Sys2Proof.Machine

/-- A shadow of the given identity, in any state (R80). -/
def isShadowOf (identity : Stamp) (r : Record) : Bool :=
  r.kind == .shadow && r.identity == identity

/-- INCOMPLETE is set (R82, R83). -/
def setIncomplete (s : State) : State := { s with shadow := { s.shadow with incomplete := true } }

/-- A foreign ANNOUNCE: refresh, creation, or INCOMPLETE (R80 to R83). -/
def processAnnounce (f : Frame) (a : Announce) (s : State) : Reading :=
  match lookup (isShadowOf (announceIdentity f a)) s with
  | .failed i => .failed i s
  | .found i r =>
    if r.state = .retired then .done (setIncomplete s)
    else .done (writeRecord i (refreshShadow (clampTerm a.term) r) s)
  | .absent =>
    match lowestFree s with
    | none => .done (setIncomplete s)
    | some i => .done (writeRecord i (newShadow (announceIdentity f a) a) s)

/-- A foreign RELEASE: FENCE_END wakes without a lookup (R85); otherwise the named shadow retires, and the wake rule
runs last, with the frame's range and with the range of a shadow that retired (R25, R46, R84;
notes/assumptions/14.md). -/
def processRelease (x : Release) (s : State) : Reading :=
  if reasonOfByte x.reason = .fenceEnd then wake wholeSpace s
  else
    match lookup (isShadowOf (releaseIdentity x)) s with
    | .failed i => .failed i s
    | .absent => wake x.range s
    | .found i r =>
      if r.state = .retired then wake x.range s
      else
        let q := retireShadow s.ctl.state .released (reasonOfByte x.reason) r
        wakeOver (fun y => overlaps y x.range || overlaps y q.range) (freeIfDone i (writeRecord i q s))

end Sys2Proof.Machine
end

