-- ==== Sys2Proof/Machine/FrameHandling.lean ====
section
/-! DEFINITION. The frame handler: taking, stripping and dispatch, due service, the egress arbiter and
departures (chapter 7). -/

namespace Sys2Proof.Machine

/-- The oldest awaiting frame, and the queue with it in hand (R114). -/
def takeOldest : List TransitEntry → Option (Frame × List TransitEntry)
  | [] => none
  | e :: es =>
    if e.cond = .awaiting then some (e.frame, { e with cond := .inHand } :: es)
    else (takeOldest es).map fun p => (p.1, e :: p.2)

/-- A frame the outstanding count counts: BALLOT, ANNOUNCE or RELEASE (R122). -/
def isCounted (f : Frame) : Bool :=
  match f.body with
  | .census _ => false
  | .roster _ => false
  | _ => true

/-- The outstanding count falls for an own BALLOT, ANNOUNCE or RELEASE of the station's epoch (R116, R122). -/
def countReturn (f : Frame) (s : State) : State :=
  { s with fh := { s.fh with
      outstanding :=
      if isCounted f ∧ f.epoch = s.census.epoch ∧ s.fh.outstanding ≠ 0 then s.fh.outstanding - 1
      else s.fh.outstanding } }

/-- An own frame is stripped (R116). -/
def strip (f : Frame) (s : State) : Reading :=
  let s := countReturn f (dropHand s)
  match f.body with
  | .ballot b => ballotReturns f b s
  | .census members =>
    if formingOrIsolated s.ctl.state then .done (ownCensusReturns f members s) else .done s
  | _ => .done s

/-- A frame in hand that the owning block has processed is marked ready (R119). -/
def thenReady (f : Frame) (r : Reading) : Reading := r.andThen fun s => .done (readyHand f s)

/-- A foreign frame in ACTIVE or LEAVING (R117, R119). -/
def dispatchActive (f : Frame) (s : State) : Reading :=
  match f.body with
  | .ballot b => if f.epoch = s.census.epoch then .done (startScan f b s) else .done (dropHand s)
  | .announce a =>
    if f.epoch = s.census.epoch then thenReady f (processAnnounce f a s) else .done (dropHand s)
  | .release x =>
    if f.epoch = s.census.epoch then thenReady f (processRelease x s) else .done (dropHand s)
  | .census members =>
    if s.census.epoch < f.epoch then
      if s.ctl.state = .active then formingByCensus f members s else enterDetached .interrupted s
    else .done (dropHand s)
  | .roster _ => .done (dropHand s)

/-- A foreign frame in FORMING or ISOLATED (R118, R119). A BALLOT is discarded and not forwarded, though R118 goes on to
speak of its return to its origin (the model's choice, notes/assumptions/27.md). -/
def dispatchForming (f : Frame) (s : State) : Reading :=
  match f.body with
  | .census members => .done (foreignCensus f members s)
  | .roster members => foreignRoster f members s
  | _ => .done (dropHand s)

/-- The tests of R114 on the frame taken into hand. -/
def processHand (f : Frame) (s : State) : Reading :=
  if f.origin = s.stationId then strip f s
  else if Config.hopLimit ≤ f.hop.toNat then .done (dropHand s)
  else if s.ctl.state = .active ∨ s.ctl.state = .leaving then dispatchActive f s
  else dispatchForming f s

/-- FRAME_TAKING (R114): in a station state of the ring, with no frame in hand. -/
def execFrameTaking (s : State) : Host.Outcome State Fault Refusal :=
  .next (match inRing s.ctl.state, handFrame s, takeOldest s.fh.transit with
    | true, none, some (f, queue) =>
      (processHand f { s with fh := { s.fh with transit := queue } }).settle
    | _, _, _ => s)

/-- A frame this station originates: hop count 0, flags clear (R123, R125). -/
def ownFrame (s : State) (epoch : Word32) (body : Body) : Frame :=
  { origin := s.stationId, duplicate := false, overfull := false, hop := 0, epoch := epoch, body := body }

/-- A built frame is placed at the tail of the origination queue (R123, R124). -/
def enqueue (f : Frame) (s : State) : State :=
  { s with fh := { s.fh with origination := s.fh.origination ++ [f] } }

/-- The CENSUS of the CENSUS due (R125, R134). -/
def censusFrame (s : State) : Frame :=
  ownFrame s ((s.census.bestKey.map Key.epoch).getD 0) (.census [s.stationId])

/-- The BALLOT of a record (R38). -/
def ballotFrame (r : Record) (s : State) : Frame :=
  ownFrame s r.identity.epoch (.ballot {
    count := r.identity.count, issue := r.issue,
    mode := modeByte r.mode, range := r.range, visited := 0, objectors := 0 })

/-- The ANNOUNCE of a record (R52). -/
def announceFrame (c : AnnounceCause) (r : Record) (s : State) : Frame :=
  ownFrame s s.census.epoch (.announce {
    leaseEpoch := r.identity.epoch, count := r.identity.count,
    cause := causeByte c, mode := modeByte r.mode, range := r.range, term := s.ctl.config.term })

/-- The RELEASE of a record: of an own record with this station as holder (R55), of a shadow in its
holder's name (R87). -/
def releaseFrame (reason : ReleaseReason) (r : Record) (s : State) : Frame :=
  ownFrame s s.census.epoch (.release
    { holder := if r.kind = .own then s.stationId else r.identity.id, reason := reasonByte reason,
      leaseEpoch := r.identity.epoch, count := r.identity.count, mode := modeByte r.mode,
      range := r.range })

/-- The RELEASE(FENCE_END) over the whole space (R92). -/
def fenceEndFrame (s : State) : Frame :=
  ownFrame s s.census.epoch (.release
    { holder := s.stationId, reason := reasonByte .fenceEnd, leaseEpoch := s.census.epoch, count := 0,
      mode := modeByte .exclusive, range := wholeSpace })

/-- Service of a record due mark: the slot is read under the check, the frame built from the record as it
stands, the due cleared (R22, R38, R52, R87, R126). -/
def serveRecord (i : SlotNo) (s : State) : Reading :=
  if (s.table.get i).damaged then .failed i s
  else match (s.table.get i).content with
    | none => .done s
    | some r =>
      let clear := { r with due := none }
      match r.due with
      | none => .done s
      | some .ballot =>
        match localScan i r.identity r.range r.mode s with
        | .failed j => .failed j s
        | .blocked => .done (writeRecord i (enterWaiting .localScan r) s)
        | .clear => .done (enqueue (ballotFrame r s) (writeRecord i clear s))
      | some (.announce c) => .done (enqueue (announceFrame c r s) (writeRecord i clear s))
      | some (.release reason) =>
        .done (freeIfDone i (writeRecord i clear (enqueue (releaseFrame reason r s) s)))

/-- Service of the ROSTER due: the ROSTER is queued and the station adopts in the same event (R125, R138). -/
def serveRoster (d : RosterDue) (s : State) : Reading :=
  adopt d.epoch d.members (enqueue (ownFrame s d.epoch (.roster d.members)) s)

/-- DUE_SERVICE (R124). -/
def execDueService (s : State) : Host.Outcome State Fault Refusal :=
  .next (if s.fh.origination.length < Config.originationDepth then
    match nextDue s with
    | none => s
    | some .census =>
      { enqueue (censusFrame s) s with census := { s.census with censusDue := false } }
    | some (.roster d) => (serveRoster d s).settle
    | some .fenceEnd =>
      { enqueue (fenceEndFrame s) s with shadow := { s.shadow with fenceEndDue := false } }
    | some (.record i) => (serveRecord i s).settle
  else s)

/-- A frame is handed to the downstream port; its check is computed now (R120, R123, R130, R183). -/
def beginSend (f : Frame) (src : SendSource) (position : Nat) (s : State) : State :=
  { s with fh := { s.fh with
      arbiterPos := position,
      inSend := some { frame := f, source := src, bytes := frameBytes f, left := false,
                       rebases := 0 } } }

/-- ARBITER_CHOICE: the table of R129 over the eligible candidates of R128. -/
def execArbiterChoice (s : State) : Host.Outcome State Fault Refusal :=
  .next (if canSend s then
    match transitCandidate s, originationCandidate s with
    | none, none => s
    | some f, none => beginSend f .transit 0 s
    | none, some g => beginSend g .origination 0 s
    | some f, some g =>
      if s.fh.arbiterPos < Config.arbiterLimit then beginSend f .transit (s.fh.arbiterPos + 1) s
      else beginSend g .origination 0 s
  else s)

/-- The departed frame leaves its queue; a transit slot's TOKEN is returned (R130). -/
def leaveAtDeparture (x : InSend) (s : State) : State :=
  if x.left then s
  else match x.source with
    | .transit => returnTokens 1 { s with fh := { s.fh with transit := s.fh.transit.drop 1 } }
    | .origination => { s with fh := { s.fh with origination := s.fh.origination.drop 1 } }

/-- The frame is on the lane, and each REBASE that has waited for it follows; credit falls by 1, and in CREDIT_WAIT, where
a rebase has set it to 0, it stays at 0 (R102, R105, R130). That the REBASE follows also when an ADVERTISE has brought the
port to UP meanwhile is the model's choice (notes/assumptions/26.md). -/
def chargeCredit (x : InSend) (s : State) : State :=
  { s with down := { s.down with
      credit := s.down.credit - 1,
      sent := s.down.sent ++ .frame x.bytes :: List.replicate x.rebases .rebase } }

/-- The outstanding count rises, and holds at 65535 (R122). -/
def countDeparture (s : State) : State :=
  { s with fh := { s.fh with
      outstanding := if s.fh.outstanding = 65535#16 then 65535#16 else s.fh.outstanding + 1 } }

/-- The own record a departing BALLOT was built from (R39). -/
def matchesDeparture (f : Frame) (b : Ballot) (r : Record) : Bool :=
  r.kind == .own && r.state == .pending && r.identity.epoch == f.epoch && r.identity.count == b.count
    && r.issue == b.issue && r.mainTimer.isNone

/-- A departing BALLOT starts the ballot timer of its record (R39). -/
def startBallotTimer (f : Frame) (b : Ballot) (s : State) : Reading :=
  match lookup (matchesDeparture f b) s with
  | .absent => .done s
  | .failed i => .failed i s
  | .found i r =>
    .done (writeRecord i { r with mainTimer := some (s.ctl.config.ballotLimit.setWidth 16) } s)

/-- A departing own CENSUS whose key is still the best key starts the census retry timer, in the states in
which it runs and while no CENSUS due is held (R134, R143; notes/assumptions/23.md). -/
def startRetryTimer (f : Frame) (s : State) : State :=
  { s with census := { s.census with
      retryTimer :=
      if some (censusKey f) = s.census.bestKey ∧ formingOrIsolated s.ctl.state ∧ ¬ s.census.censusDue
      then some Config.censusRetryTicks else s.census.retryTimer } }

/-- What the departure of an originated frame does beside leaving its queue (R39, R122, R134). -/
def departOwn (f : Frame) (s : State) : Reading :=
  match f.body with
  | .census _ => .done (startRetryTimer f s)
  | .roster _ => .done s
  | .ballot b => startBallotTimer f b (countDeparture s)
  | _ => .done (countDeparture s)

/-- FRAME_DEPARTURE (R130). -/
def execFrameDeparture (s : State) : Host.Outcome State Fault Refusal :=
  .next (match s.fh.inSend with
    | none => s
    | some x =>
      let s := chargeCredit x (leaveAtDeparture x { s with fh := { s.fh with inSend := none } })
      match x.source with
      | .transit => s
      | .origination => (departOwn x.frame s).settle)

end Sys2Proof.Machine
end

