-- ==== Sys2Proof/Machine/Lanes.lean ====
section
/-! DEFINITION. Lane symbols and the receiver's reading of code groups (11.1, R95, R97, R181). -/

namespace Sys2Proof.Machine

/-- The symbols of the lanes (table of 11.1). -/
inductive Symbol where
  | idle
  | start
  | stop
  | token
  | advertise
  | rebase
  | train
  deriving DecidableEq, Repr

/-- A received group: a data group, a control group whose check passes, or no group of the code. -/
inductive Group where
  | data (b : Byte)
  | control (s : Symbol)
  | invalid
  deriving DecidableEq, Repr

/-- What a group received while locked means to the receiver (R181). -/
inductive Reception where
  | violation
  | training
  | normal
  deriving DecidableEq, Repr

/-- Symbol codes (table of 11.1). -/
def symbolCode : Symbol → BitVec 4
  | .idle => 1
  | .start => 2
  | .stop => 3
  | .token => 4
  | .advertise => 5
  | .rebase => 6
  | .train => 9

/-- The symbol of a code, if the table holds it. -/
def symbolOfCode (c : BitVec 4) : Option Symbol :=
  [Symbol.idle, .start, .stop, .token, .advertise, .rebase, .train].find? fun s => symbolCode s == c

/-- Control group: bit 9 clear, code in bits 8..5, its complement in bits 4..1, bit 0 set. -/
def controlGroup (s : Symbol) : LaneGroup :=
  0#1 ++ symbolCode s ++ (~~~ symbolCode s) ++ 1#1

/-- Data group: bit 9 set, the byte in bits 8..1, bit 0 clear. -/
def dataGroup (b : Byte) : LaneGroup := 1#1 ++ b ++ 0#1

/-- Reads a group; bits 9 and 0 equal, or a failed control check, is no group of the code (R181). -/
def readGroup (g : LaneGroup) : Group :=
  if g.getLsbD 9 = g.getLsbD 0 then .invalid
  else if g.getLsbD 9 then .data (g.extractLsb' 1 8)
  else if g.extractLsb' 1 4 = ~~~ (g.extractLsb' 5 4) then
    match symbolOfCode (g.extractLsb' 5 4) with
    | some s => .control s
    | none => .invalid
  else .invalid

/-- A group that counts towards symbol alignment: a data group or a control group whose check passes. -/
def isCodeGroup (g : LaneGroup) : Bool := readGroup g != .invalid

/-- The groups that give symbol alignment: 8 consecutive groups of the code (R181). -/
def givesAlignment (groups : List LaneGroup) : Bool :=
  groups.length == 8 && groups.all isCodeGroup

/-- Reading a group while locked. The upstream port listens on the forward lane, the downstream port on
the return lane (R97, R181). -/
def receive (port : Port) (inFrame : Bool) (g : LaneGroup) : Reception :=
  match port, readGroup g with
  | _, .invalid => .violation
  | .upstream, .data _ => if inFrame then .normal else .violation
  | .upstream, .control .stop => .normal
  | .upstream, .control .token => .violation
  | .upstream, .control .advertise => .violation
  | .upstream, .control .train => if inFrame then .violation else .training
  | .upstream, .control _ => if inFrame then .violation else .normal
  | .downstream, .data _ => .violation
  | .downstream, .control .start => .violation
  | .downstream, .control .stop => .violation
  | .downstream, .control .rebase => .violation
  | .downstream, .control .train => .training
  | .downstream, .control _ => .normal

/-- Whether a cause unlocks the receiver of a port (R97, R181). -/
def unlocks (port : Port) : LockLoss → Bool
  | .alignmentLost => true
  | .laneQuiet => true
  | .violation inFrame g => receive port inFrame g == .violation

/-- The groups sent for an item of the forward lane. Of a cut-off send the data book does not say how
many groups went out, so it has none here. -/
def forwardGroups : ForwardItem → List LaneGroup
  | .frame bytes => controlGroup .start :: (bytes.map dataGroup ++ [controlGroup .stop])
  | .cutOff _ => []
  | .rebase => [controlGroup .rebase]

/-- The group sent for a symbol of the return lane. -/
def returnGroup : ReturnSymbol → LaneGroup
  | .token => controlGroup .token
  | .advertise => controlGroup .advertise

/-- The classes of stream a port sends in each link state (R95). -/
inductive Stream where
  | quiet
  | trainingPattern
  | normal
  deriving DecidableEq, Repr

/-- What a port sends on its outgoing lane (R95). -/
def streamOf : LinkState → Stream
  | .off => .quiet
  | .training => .trainingPattern
  | .creditWait => .normal
  | .up => .normal

/-- The group a port sends whenever it has nothing else to send: IDLE in the normal stream, TRAIN continuously in
TRAINING, none on a quiet lane (R95, R181). -/
def fillGroup : Stream → Option LaneGroup
  | .quiet => none
  | .trainingPattern => some (controlGroup .train)
  | .normal => some (controlGroup .idle)

/-- What the forward lane carries while the port stays in a link state: each item it is given to send, and a group of
fill wherever it has none; only the normal stream carries items (R95, R181). -/
def forwardLane (l : LinkState) (items : List (Option ForwardItem)) : List LaneGroup :=
  items.flatMap fun x =>
    match streamOf l, x with
    | .normal, some item => forwardGroups item
    | stream, _ => (fillGroup stream).toList

/-- What the return lane carries while the port stays in a link state (R95, R181). -/
def returnLane (l : LinkState) (items : List (Option ReturnSymbol)) : List LaneGroup :=
  items.flatMap fun x =>
    match streamOf l, x with
    | .normal, some item => [returnGroup item]
    | stream, _ => (fillGroup stream).toList

/-- The commands that one group brings at a locked receiver, and the bytes of the frame under reception
afterwards (`none` outside a frame) (R181). A group that ends a frame hands its bytes to R107. -/
def commandsOfGroup (port : Port) (frame : Option (List Byte)) (g : LaneGroup) :
    Option (List Byte) × List Instr :=
  match receive port frame.isSome g with
  | .violation => (none, [.receiveLockLost port (.violation frame.isSome g)])
  | .training => (none, [.farLockClear port])
  | .normal =>
    let seen := Instr.farLockSet port frame.isSome g
    match readGroup g with
    | .data b => (frame.map (· ++ [b]), [seen])
    | .control .start => (some [], [seen])
    | .control .stop => (none, seen :: (frame.map Instr.frameArrival).toList)
    | .control .token => (frame, [seen, .token])
    | .control .advertise => (frame, [seen, .advertise])
    | .control .rebase => (frame, [seen, .rebase])
    | _ => (frame, [seen])

/-- The commands that a run of groups brings at a locked receiver. -/
def commandsOfGroups (port : Port) (frame : Option (List Byte)) : List LaneGroup → List Instr
  | [] => []
  | g :: gs =>
    (commandsOfGroup port frame g).2 ++ commandsOfGroups port (commandsOfGroup port frame g).1 gs

end Sys2Proof.Machine
end

