-- ==== Sys2Proof/Machine/Links.lean ====
section
/-! DEFINITION. The two ports: lock, training, credit and frame checking (chapter 6, R181). -/

namespace Sys2Proof.Machine

/-- A group of the normal stream that a port reads sets far lock (R97, R181; notes/assumptions/9.md). -/
def seeNormalUp (s : State) : State :=
  { s with up := { s.up with farLock := s.up.farLock || readsSymbols s.up.link } }

/-- The same at the downstream port. -/
def seeNormalDown (s : State) : State :=
  { s with down := { s.down with farLock := s.down.farLock || readsSymbols s.down.link } }

/-- The upstream receiver gains alignment: in TRAINING the port enters CREDIT_WAIT and owes an
advertisement (R99). -/
def lockUpstream (s : State) : State :=
  if s.up.link = .training then
    { s with up := { s.up with link := .creditWait, receiveLock := true, advertisementOwed := true } }
  else s

/-- The downstream receiver gains alignment: in TRAINING the port enters CREDIT_WAIT with credit 0 (R99). -/
def lockDownstream (s : State) : State :=
  if s.down.link = .training then
    { s with down := { s.down with link := .creditWait, receiveLock := true, credit := 0 } }
  else s

/-- The upstream receiver loses its lock (R97, R101). -/
def unlockUpstream (s : State) : State :=
  let t := { s with up := { s.up with receiveLock := false, farLock := false } }
  match s.up.link with
  | .off => s
  | .training => t
  | .creditWait => trainUpstream t
  | .up => upstreamLeftUp (trainUpstream t)

/-- The downstream receiver loses its lock (R97, R101). -/
def unlockDownstream (s : State) : State :=
  let t := { s with down := { s.down with receiveLock := false, farLock := false } }
  match s.down.link with
  | .off => s
  | .training => t
  | .creditWait => trainDownstream t
  | .up => downstreamLeftUp (trainDownstream t)

/-- The training pattern arrives at the locked upstream receiver (R97, R99, R101). -/
def clearFarUpstream (s : State) : State :=
  let t := { s with up := { s.up with farLock := false } }
  if s.up.receiveLock then
    match s.up.link with
    | .off => s
    | .up => upstreamLeftUp (trainUpstream t)
    | _ => t
  else s

/-- The training pattern arrives at the locked downstream receiver (R97, R101). -/
def clearFarDownstream (s : State) : State :=
  let t := { s with down := { s.down with farLock := false } }
  if s.down.receiveLock then
    match s.down.link with
    | .off => s
    | .up => downstreamLeftUp (trainDownstream t)
    | _ => t
  else s

/-- A bad frame: the run rises; below 4 a TOKEN is returned, at 4 the port enters TRAINING (R108). -/
def badFrame (s : State) : State :=
  if s.up.badRun + 1 < Config.badFrameLimit then
    returnTokens 1 { s with up := { s.up with badRun := s.up.badRun + 1 } }
  else upstreamLeftUp (trainUpstream { s with up := { s.up with badRun := Config.badFrameLimit } })

/-- A good frame: the run returns to 0 and the frame enters the transit queue at its tail, awaiting (R107,
R113). -/
def goodFrame (f : Frame) (s : State) : State :=
  { s with up := { s.up with badRun := 0 },
           fh := { s.fh with transit := s.fh.transit ++ [{ frame := f, cond := .awaiting }] } }

/-- An arriving frame (R107). The credit count excludes an arrival at a full transit queue (R104); such an
event does not come about (notes/assumptions/13.md). -/
def arrive (bytes : List Byte) (s : State) : State :=
  match s.up.link with
  | .creditWait => seeNormalUp s
  | .up =>
    if s.fh.transit.length < Config.transitDepth then
      match checkFrame bytes with
      | some f => goodFrame f (seeNormalUp s)
      | none => badFrame (seeNormalUp s)
    else s
  | _ => s

/-- FRAME_ARRIVAL (R107). -/
def execFrameArrival (bytes : List Byte) (s : State) : Host.Outcome State Fault Refusal :=
  .next (arrive bytes s)

/-- RECEIVE_LOCK_GAINED (R99, R181). -/
def execReceiveLockGained (port : Port) (groups : List LaneGroup) (s : State) :
    Host.Outcome State Fault Refusal :=
  .next (if givesAlignment groups then
    match port with
    | .upstream => lockUpstream s
    | .downstream => lockDownstream s
  else s)

/-- RECEIVE_LOCK_LOST (R101, R181). -/
def execReceiveLockLost (port : Port) (cause : LockLoss) (s : State) :
    Host.Outcome State Fault Refusal :=
  .next (if unlocks port cause then
    match port with
    | .upstream => unlockUpstream s
    | .downstream => unlockDownstream s
  else s)

/-- FAR_LOCK_SET (R97, R181): a valid group other than TRAIN received while locked. -/
def execFarLockSet (port : Port) (inFrame : Bool) (group : LaneGroup) (s : State) :
    Host.Outcome State Fault Refusal :=
  .next (if receive port inFrame group = .normal then
    match port with
    | .upstream =>
      if s.up.receiveLock ∧ s.up.link ≠ .off then { s with up := { s.up with farLock := true } } else s
    | .downstream =>
      if s.down.receiveLock ∧ s.down.link ≠ .off
      then { s with down := { s.down with farLock := true } } else s
  else s)

/-- FAR_LOCK_CLEAR (R101, R181). -/
def execFarLockClear (port : Port) (s : State) : Host.Outcome State Fault Refusal :=
  .next (match port with
    | .upstream => clearFarUpstream s
    | .downstream => clearFarDownstream s)

/-- TOKEN: 1 more egress credit in UP, up to 8; discarded in the other states (R100, R102). -/
def execToken (s : State) : Host.Outcome State Fault Refusal :=
  let t := seeNormalDown s
  .next (if s.down.link = .up ∧ s.down.credit < Config.fullCredit then
    { t with down := { t.down with credit := s.down.credit + 1 } }
  else t)

/-- ADVERTISE: CREDIT_WAIT to UP with credit 8 (R100); in UP it is a code violation (R97). -/
def execAdvertise (s : State) : Host.Outcome State Fault Refusal :=
  .next (match s.down.link with
    | .creditWait =>
      { s with down := { s.down with link := .up, farLock := true, credit := Config.fullCredit } }
    | .up => unlockDownstream s
    | _ => s)

/-- REBASE: an upstream port in UP owes an advertisement (R106). -/
def execRebase (s : State) : Host.Outcome State Fault Refusal :=
  let t := seeNormalUp s
  .next (if s.up.link = .up then { t with up := { t.up with advertisementOwed := true } } else t)

/-- ADVERTISE_SEND: with the advertisement owed, far lock set and the transit queue empty, ADVERTISE goes
out; from CREDIT_WAIT the port enters UP with the bad-frame run at 0 (R99, R106, R108). -/
def execAdvertiseSend (s : State) : Host.Outcome State Fault Refusal :=
  .next (if s.up.advertisementOwed ∧ s.up.farLock ∧ s.fh.transit = [] ∧ readsSymbols s.up.link then
    let u := { s.up with advertisementOwed := false, sent := s.up.sent ++ [.advertise] }
    if s.up.link = .creditWait then { s with up := { u with link := .up, badRun := 0 } }
    else { s with up := u }
  else s)

end Sys2Proof.Machine
end

