-- ==== Sys2Proof/Machine/Codes.lean ====
section
/-! DEFINITION. The codes and the bytes of result records and of window groups (11.3, 11.4, R175 to R180,
R186). -/

namespace Sys2Proof.Machine

/-- Completion codes. -/
def completionByte : CompletionCode → Byte
  | .ok => 0x00
  | .notConfigured => 0x01
  | .alreadyConfigured => 0x02
  | .badConfig => 0x03
  | .notActive => 0x04
  | .badRange => 0x05
  | .badMode => 0x06
  | .quota => 0x07
  | .tableFull => 0x08
  | .badSlot => 0x09
  | .wrongState => 0x0A
  | .conflict => 0x0B
  | .unknownCommand => 0x0C

/-- WAITING cause codes. -/
def waitCauseByte : WaitCause → Byte
  | .localScan => 1
  | .remote => 2
  | .epoch => 3

/-- FAILED cause codes. -/
def failCauseByte : FailCause → Byte
  | .conflict => 1
  | .timeout => 2
  | .ringFault => 3
  | .leave => 4

/-- REVOKED cause codes. -/
def revokeCauseByte : RevokeCause → Byte
  | .isolation => 1
  | .leave => 2

/-- Record notice kinds. -/
def noticeByte : Notice → Byte
  | .granted => 1
  | .waiting _ => 2
  | .failed _ => 3
  | .termLow => 4
  | .expired => 5
  | .revoked _ => 6

/-- Notice causes, 0 where the kind has none. -/
def noticeCauseByte : Notice → Byte
  | .waiting c => waitCauseByte c
  | .failed c => failCauseByte c
  | .revoked c => revokeCauseByte c
  | _ => 0

/-- Halt cause codes. -/
def haltCauseByte : HaltCause → Byte
  | .duplicateId => 1
  | .epochExhausted => 2
  | .tableCheck => 3

/-- FAULT cause codes. -/
def faultCauseByte : FaultCause → Byte
  | .halt c => haltCauseByte c
  | .ringOverfull => 4

/-- Leave outcome codes, 0 for none. -/
def leaveOutcomeByte : Option LeaveOutcome → Byte
  | none => 0
  | some .clean => 1
  | some .timedOut => 2
  | some .interrupted => 3

/-- STARTED cause codes. -/
def startCauseByte : StartCause → Byte
  | .pin => 1
  | .host => 2

/-- Record state codes. -/
def recStateByte : RecState → Byte
  | .pending => 1
  | .waiting => 2
  | .granted => 3
  | .retired => 4
  | .live => 5
  | .orphaned => 6

/-- Outcome codes of the RECORD window. -/
def outcomeByte : Option RecOutcome → Byte
  | none => 0
  | some .released => 1
  | some .expired => 2
  | some .cancelled => 3
  | some (.failed .conflict) => 4
  | some (.failed .timeout) => 5
  | some (.failed .ringFault) => 6
  | some (.failed .leave) => 7
  | some (.revoked .isolation) => 8
  | some (.revoked .leave) => 9
  | some .lapsed => 10

/-- Link state codes. -/
def linkByte : LinkState → Byte
  | .off => 0
  | .training => 1
  | .creditWait => 2
  | .up => 3

/-- Two bytes of a word. -/
def word16Bytes (w : Word16) : List Byte := bigEndian 2 w.toNat

/-- Four bytes of a word. -/
def word32Bytes (w : Word32) : List Byte := bigEndian 4 w.toNat

/-- A timer reads 0 while stopped or absent, otherwise its remaining ticks (R186). -/
def timerBytes (t : Option Word16) : List Byte := word16Bytes (t.getD 0)

/-- A count as one byte. -/
def countByte (n : Nat) : Byte := BitVec.ofNat 8 n

/-- The 16 bytes of a result record (11.3). -/
def resultBytes : ResultRecord → List Byte
  | .completion code command seq slot tag =>
    [0x01, completionByte code, command, seq, slot] ++ word16Bytes tag ++ List.replicate 9 0
  | .recordNotice n replaced slot tag st term =>
    [0x02, noticeByte n, noticeCauseByte n, flagBit replaced 1, BitVec.ofNat 8 slot.val]
      ++ word16Bytes tag ++ [recStateByte st] ++ word16Bytes term ++ List.replicate 6 0
  | .started cause => [0x03, 1, startCauseByte cause] ++ List.replicate 13 0
  | .state n replaced =>
    [0x03, 2, stateCode n.state, flagBit replaced 1] ++ word32Bytes n.epoch
      ++ [countByte n.members, countByte n.orphans, flagBit n.fence 1, leaveOutcomeByte n.outcome]
      ++ List.replicate 4 0
  | .fault cause replaced => [0x03, 3, faultCauseByte cause, flagBit replaced 1] ++ List.replicate 12 0

/-- The EMPTY record (R175). -/
def emptyRecord : List Byte := List.replicate 16 0

/-- Two IDs per byte in ring order, places beyond the list 0 (R186). -/
def packIds (ids : List StationId) : List Byte :=
  (List.range 8).map fun k => (ids.getD (2 * k) 0) ++ (ids.getD (2 * k + 1) 0)

/-- A group of the STATION space (R186). -/
def stationGroup (s : State) : Nat → List Byte
  | 0 =>
    [stateCode s.ctl.state,
     flagBit s.ctl.configured 0x01 ||| flagBit s.census.bestKey.isSome 0x02
       ||| flagBit s.census.censusDue 0x04 ||| flagBit s.census.rosterDue.isSome 0x08
       ||| flagBit s.shadow.incomplete 0x10 ||| flagBit s.fenceActive 0x20
       ||| flagBit s.shadow.fenceObjected 0x40 ||| flagBit s.shadow.fenceEndDue 0x80,
     s.stationId.setWidth 8,
     (s.ctl.haltCause.map haltCauseByte).getD 0,
     leaveOutcomeByte s.ctl.leaveOutcome,
     flagBit s.ctl.stateMark.isSome 0x01 ||| flagBit (s.ctl.stateMark.any (·.replaced)) 0x02
       ||| flagBit s.ctl.faultMark.isSome 0x04 ||| flagBit (s.ctl.faultMark.any (·.replaced)) 0x08,
     countByte s.census.roster.length, countByte s.census.previousRoster.length]
  | 1 => word32Bytes s.census.epoch ++ word32Bytes s.clock
  | 2 =>
    word16Bytes s.ctl.config.term ++ word16Bytes s.ctl.config.warning ++ [s.ctl.config.ballotLimit]
      ++ word16Bytes s.ctl.config.formationLimit
      ++ [((s.census.bestKey.map Key.origin).getD 0).setWidth 8]
  | 3 =>
    word16Bytes s.ctl.config.orphanHold ++ word16Bytes s.fh.outstanding
      ++ word32Bytes ((s.census.bestKey.map Key.epoch).getD 0)
  | 4 =>
    timerBytes s.census.retryTimer ++ timerBytes s.census.formationTimer
      ++ timerBytes s.shadow.fence ++ timerBytes s.ctl.leaveTimer
  | 5 => packIds s.census.roster
  | 6 => packIds s.census.previousRoster
  | _ => List.replicate 8 0

/-- A group of the LINK space (R186). -/
def linkGroup (s : State) : Nat → List Byte
  | 0 =>
    [linkByte s.up.link,
     flagBit s.up.receiveLock 0x01 ||| flagBit s.up.farLock 0x02 ||| flagBit s.up.advertisementOwed 0x04,
     countByte s.up.badRun, linkByte s.down.link,
     flagBit s.down.receiveLock 0x01 ||| flagBit s.down.farLock 0x02,
     countByte s.down.credit, 0, 0]
  | 1 =>
    [countByte s.fh.transit.length, countByte s.fh.origination.length, countByte s.fh.arbiterPos,
     (match s.fh.inSend with
      | none => 0
      | some x => match x.source with
        | .transit => 1
        | .origination => 2),
     0, 0, 0, 0]
  | _ => List.replicate 8 0

/-- The due kind of the RECORD window. -/
def dueKindByte : Option Due → Byte
  | none => 0
  | some .ballot => 1
  | some (.announce _) => 2
  | some (.release _) => 3

/-- The due cause or reason of the RECORD window. -/
def dueCauseByte : Option Due → Byte
  | some (.announce c) => causeByte c
  | some (.release r) => reasonByte r
  | _ => 0

/-- A group of the RECORD space for a record in use (R186). -/
def recordGroup (r : Record) : Nat → List Byte
  | 0 =>
    [(match r.kind with
      | .own => 0x10
      | .shadow => 0x20) ||| recStateByte r.state,
     modeByte r.mode] ++ word16Bytes r.tag ++
    [(r.notice.map fun m => noticeByte m.notice).getD 0,
     (r.notice.map fun m => noticeCauseByte m.notice).getD 0 ||| flagBit r.waitingReported 0x40
       ||| flagBit (r.notice.any (·.replaced)) 0x80,
     r.identity.id.setWidth 8,
     flagBit r.objected 0x01 ||| flagBit r.noWait 0x02 ||| flagBit r.releaseSeen 0x04]
  | 1 =>
    bigEndian 5 r.range.first.toNat ++ [dueKindByte r.due, dueCauseByte r.due, outcomeByte r.outcome]
  | 2 => word32Bytes r.identity.epoch ++ word32Bytes r.identity.count
  | 3 =>
    bigEndian 5 r.range.last.toNat ++
    [r.issue, countByte r.lossCount ||| ((r.waitCause.map waitCauseByte).getD 0 <<< 4),
     flagBit r.mainTimer.isSome 0x01 ||| flagBit r.waitLimit.isSome 0x02]
  | 4 => timerBytes r.mainTimer ++ timerBytes r.waitLimit ++ word16Bytes r.announcedTerm ++ [0, 0]
  | _ => List.replicate 8 0

/-- The group the window index selects, as it stands; a FREE slot reads 0 in every byte (R30, R179). -/
def windowGroup (s : State) : List Byte :=
  match s.host.index.space with
  | .station => stationGroup s s.host.index.group
  | .link => linkGroup s s.host.index.group
  | .record =>
    match (s.table.get s.host.index.slot).content with
    | none => List.replicate 8 0
    | some r => recordGroup r s.host.index.group

end Sys2Proof.Machine
end

