-- ==== Sys2Proof/Machine/SpiPort.lean ====
section
/-! DEFINITION. The SPI transactions of the host port and the drains of notices (chapter 10). -/

namespace Sys2Proof.Machine

/-- The bytes a read transaction shifts out after the status byte (R167, R175, R179). -/
def replyBytes (s : State) : Transaction → List Byte
  | .readResult =>
    match s.host.results with
    | [] => emptyRecord
    | r :: _ => resultBytes r
  | .readStatus =>
    [statusByte s, countByte s.host.commands.length, countByte s.host.results.length,
     stateCode s.ctl.state]
  | .readWindow => windowGroup s
  | _ => []

/-- The whole bytes a transaction has shifted out when `n` bytes have followed its code byte: the status byte, then
the reply, then bytes of value 0; none when the code byte was cut short (R165, R166). -/
def shiftedOut (x : Transfer) (n : Nat) : List Byte :=
  match x.code with
  | none => []
  | some _ => x.status :: ((x.reply ++ List.replicate n 0).take n)

/-- A command record is accepted, or discarded with the overrun flag (R169). -/
def acceptCommand (record : List Byte) (s : State) : State :=
  { s with host :=
      if s.host.commands.length < Config.commandDepth then
        { s.host with
          commands := s.host.commands ++ [{ bytes := record, seq := s.host.nextSeq }],
          nextSeq := s.host.nextSeq + 1 }
      else { s.host with overrun := true } }

/-- The window index that three written bytes name, when all are valid (R178, R185). -/
def writtenIndex (data : List Byte) : Option WindowIndex :=
  match windowSpace (byteAt data 0) with
  | none => none
  | some space =>
    if h : (byteAt data 1).toNat < 64 then
      if (byteAt data 2).toNat ≤ lastGroup space then
        some { space := space, slot := ⟨(byteAt data 1).toNat, h⟩, group := (byteAt data 2).toNat }
      else none
    else none

/-- The window index takes three written values, when all are valid (R178). -/
def setIndex (data : List Byte) (s : State) : State :=
  { s with host := { s.host with index := (writtenIndex data).getD s.host.index } }

/-- The advance of the window index (R179). -/
def advanceIndex (x : WindowIndex) : WindowIndex :=
  if x.group < lastGroup x.space then { x with group := x.group + 1 }
  else match x.space with
    | .record => { x with slot := x.slot + 1, group := 0 }
    | _ => { x with group := 0 }

/-- A RECORD read is a read of the slot under the check of R28, at the end of the code byte; other groups read no
slot (R30, R179; notes/assumptions/6.md). -/
def checkWindowRead (s : State) : State :=
  match s.host.index.space with
  | .record => if (s.table.get s.host.index.slot).damaged then tableCheck s.host.index.slot s else s
  | _ => s

/-- The effect of a transaction's code byte, before the data bytes (R179). -/
def codeByteEffect (t : Transaction) (s : State) : State :=
  match t with
  | .readWindow => checkWindowRead s
  | _ => s

/-- The effect of a complete transaction at the rise of CSN; a READ_RESULT removes the head record when it is what
was shifted out (R175). -/
def closeEffect (t : Transaction) (headShown : Bool) (data : List Byte) (s : State) : State :=
  match t with
  | .writeCommand => acceptCommand (data.take 20) s
  | .readResult =>
    { s with host := { s.host with
        results := if headShown then s.host.results.drop 1 else s.host.results } }
  | .readStatus => { s with host := { s.host with overrun := false } }
  | .writeIndex => setIndex data s
  | .readWindow => { s with host := { s.host with index := advanceIndex s.host.index } }
  | .stationReset => { State.afterReset .host with resetn := s.resetn, pending := s.pending }

/-- CSN falls: the status byte is fixed (R166). While RESETN is held low the port does not respond (R163). -/
def spiFall (s : State) : State :=
  if s.resetn ∧ s.host.spi = none then
    { s with host := { s.host with
        spi := some { status := statusByte s, code := none, reply := [], headShown := false } } }
  else s

/-- The code byte has been shifted in: the reply is fixed, and a READ_WINDOW reads its group (R165, R167, R175, R179).
A byte that is no transaction code has no reply. -/
def spiCode (k : Transaction) (b : Byte) (s : State) : State :=
  match s.host.spi with
  | none => s
  | some x =>
    if x.code = none ∧ eventFits k (.code b) then
      if transactionOf b = some k then
        codeByteEffect k { s with host := { s.host with
          spi := some { x with code := some b, reply := replyBytes s k,
                               headShown := k == .readResult && !s.host.results.isEmpty } } }
      else { s with host := { s.host with
        spi := some { x with code := some b, reply := [], headShown := false } } }
    else s

/-- The transaction ends: CSN is high, and SDO has carried the bytes (R165). -/
def endTransfer (x : Transfer) (n : Nat) (s : State) : State :=
  { s with host := { s.host with spi := none, sdo := shiftedOut x n } }

/-- CSN rises: a complete transaction takes its effect; one with too few bytes, or whose code byte was cut short or
is no transaction code, takes none (R165). -/
def spiRise (k : Transaction) (data : List Byte) (s : State) : State :=
  match s.host.spi with
  | none => s
  | some x =>
    match x.code.bind transactionOf with
    | none => endTransfer x data.length s
    | some t =>
      if t = k then
        endTransfer x data.length
          (if bytesNeeded t ≤ data.length then closeEffect t x.headShown data s else s)
      else s

/-- An event of a transaction of the given row (R165; notes/assumptions/2.md). -/
def transact (k : Transaction) (e : SpiEvent) (s : State) : State :=
  match e with
  | .fall => spiFall s
  | .code b => spiCode k b s
  | .rise data => spiRise k data s

/-- The drain of a record notice mark (R24, R176): the notice is placed, the mark cleared, and a RETIRED
record with no due mark freed. A damaged slot's drain places nothing (R28). -/
def drainRecord (i : SlotNo) (s : State) : State :=
  if (s.table.get i).damaged then tableCheck i s
  else match (s.table.get i).content with
    | none => s
    | some r =>
      match r.notice with
      | none => s
      | some m =>
        let term : Word16 := if r.state = .granted then r.mainTimer.getD 0 else 0
        let s := { s with host := { s.host with results := s.host.results ++
          [.recordNotice m.notice m.replaced i r.tag r.state term] } }
        freeIfDone i (writeRecord i { r with notice := none } s)

/-- The drain of the STATE mark, else of the FAULT mark (R173, R177). -/
def drainStation (s : State) : State :=
  match s.ctl.stateMark, s.ctl.faultMark with
  | some m, _ =>
    { s with ctl := { s.ctl with stateMark := none },
             host := { s.host with results := s.host.results ++ [.state m.notice m.replaced] } }
  | none, some m =>
    { s with ctl := { s.ctl with faultMark := none },
             host := { s.host with results := s.host.results ++ [.fault m.cause m.replaced] } }
  | none, none => s

/-- RESETN: from high it falls, cuts off a transaction in progress and holds every item at its reset value; from low
it rises, and the part starts with STARTED(PIN) in the result queue (R163, R164, R172; notes/assumptions/21.md). -/
def execResetn (s : State) : Host.Outcome State Fault Refusal :=
  .next { (if s.resetn then State.heldReset else State.afterReset .pin) with pending := s.pending }

/-- STATION_RESET (R164). -/
def execStationReset (e : SpiEvent) (s : State) : Host.Outcome State Fault Refusal :=
  .next (transact .stationReset e s)

/-- WRITE_COMMAND (R169). -/
def execWriteCommand (e : SpiEvent) (s : State) : Host.Outcome State Fault Refusal :=
  .next (transact .writeCommand e s)

/-- READ_RESULT (R175). -/
def execReadResult (e : SpiEvent) (s : State) : Host.Outcome State Fault Refusal :=
  .next (transact .readResult e s)

/-- READ_STATUS (R167). -/
def execReadStatus (e : SpiEvent) (s : State) : Host.Outcome State Fault Refusal :=
  .next (transact .readStatus e s)

/-- WRITE_INDEX (R178). -/
def execWriteIndex (e : SpiEvent) (s : State) : Host.Outcome State Fault Refusal :=
  .next (transact .writeIndex e s)

/-- READ_WINDOW (R179). -/
def execReadWindow (e : SpiEvent) (s : State) : Host.Outcome State Fault Refusal :=
  .next (transact .readWindow e s)

/-- RECORD_NOTICE_DRAIN: the grant goes to the lowest slot that holds a mark (R173, R176). -/
def execRecordNoticeDrain (s : State) : Host.Outcome State Fault Refusal :=
  .next (match recordGranted s, noticeSlot s with
    | true, some i => drainRecord i s
    | _, _ => s)

/-- STATION_NOTICE_DRAIN (R173, R177). -/
def execStationNoticeDrain (s : State) : Host.Outcome State Fault Refusal :=
  .next (if placeFree s then drainStation s else s)

end Sys2Proof.Machine
end

