-- ==== Sys2Proof/Machine/StationCommands.lean ====
section
/-! DEFINITION. The station controller's commands CONFIGURE, RESYNC and LEAVE, and the record of an unknown
code (chapter 9, R170). -/

namespace Sys2Proof.Machine

/-- The completion of a command that names no slot and no tag (R171). -/
def plain (code : CompletionCode) : Completion := { code := code, slot := noSlot, tag := 0 }

/-- The steps of an accepted CONFIGURE (R153): the values and the flag, BYPASSN and the ports, FORMING with
the formation timer and the proposal of epoch 1, the STATE mark. -/
def acceptConfiguration (c : Configuration) (s : State) : State :=
  let s := { s with
    ctl := { s.ctl with config := c, configured := true, bypassn := true, state := .forming },
    up := { s.up with link := .training },
    down := { s.down with link := .training },
    census := { s.census with formationTimer := some c.formationLimit } }
  markState { state := .forming, epoch := 0, members := 0, orphans := 0, fence := false,
              outcome := none } (proposeEpoch 1 s)

/-- CONFIGURE: the tests of R152 in their order, then R153. -/
def configureBody (e : CommandEntry) (s : State) : Completion × State :=
  if s.ctl.configured then (plain .alreadyConfigured, s)
  else if s.ctl.state ≠ .unconfigured then (plain .notActive, s)
  else match configureFields e.bytes with
    | none => (plain .badConfig, s)
    | some c => (plain .ok, acceptConfiguration c s)

/-- RESYNC: taken in ACTIVE alone, the entry to FORMING (R154, R155). -/
def resyncBody (_ : CommandEntry) (s : State) : Completion × State :=
  if s.ctl.state ≠ .active then (plain .notActive, s)
  else finishCommand (plain .ok) (plain .ok) (enterForming s)

/-- Steps 1 to 4 and 6 of LEAVE (R156). Every own record not RETIRED retires before the wake rule runs for
any of them; the rule then finds no PENDING or WAITING record (R60), so the pass is all there is. Step 3 reads the own
records not RETIRED alone; the data book says neither which slots it reads nor in what order (notes/assumptions/5.md). -/
def leaveRing (s : State) : Reading :=
  let s := { s with ctl := { s.ctl with state := .leaving,
                                        leaveTimer := some s.ctl.config.formationLimit,
                                        leaveOutcome := none } }
  (passOver isOpenOwn (fun _ r => some (leaveRecord r)) s).andThen fun s =>
    let s := markStateNow .leaving none s
    if drainHolds s then enterDetached .clean s else .done s

/-- LEAVE: taken in ACTIVE alone (R154, R156). -/
def leaveBody (_ : CommandEntry) (s : State) : Completion × State :=
  if s.ctl.state ≠ .active then (plain .notActive, s)
  else finishCommand (plain .ok) (plain .ok) (leaveRing s)

/-- A record whose code is no command code (R170). -/
def unknownBody (_ : CommandEntry) (s : State) : Completion × State := (plain .unknownCommand, s)

/-- CONFIGURE taken by the command handler (R153). -/
def execConfigure (s : State) : Host.Outcome State Fault Refusal :=
  .next (takeCommand (some .configure) configureBody s)

/-- RESYNC taken by the command handler (R155). -/
def execResync (s : State) : Host.Outcome State Fault Refusal :=
  .next (takeCommand (some .resync) (ifConfigured resyncBody) s)

/-- LEAVE taken by the command handler (R156). -/
def execLeave (s : State) : Host.Outcome State Fault Refusal :=
  .next (takeCommand (some .leave) (ifConfigured leaveBody) s)

/-- A record of an unknown code taken by the command handler, in every station state and before the
configured flag is looked at (R170). -/
def execUnknownCommand (s : State) : Host.Outcome State Fault Refusal :=
  .next (takeCommand none unknownBody s)

end Sys2Proof.Machine
end

