-- ==== Sys2Proof/Machine/Timers.lean ====
section
/-! DEFINITION. The tick and the expiries of the part's timers (R32, R79, R143, R144, R157, R158, R162). A timer
at 0 has expired and waits for its expiry event (notes/assumptions/7.md). -/

namespace Sys2Proof.Machine

/-- States in which shadow timers and the fence timer count (R79). -/
def shadowsCount (st : StationState) : Bool := st == .active || st == .leaving || st == .forming

/-- The tick at the lease table: the timers of own records, then those of shadows; a read of a slot that
holds a running timer is checked (R28, R32, R79). The order of the reads is the model's choice (notes/assumptions/5.md,
6.md). -/
def tickTable (s : State) : Reading :=
  let own (r : Record) : Bool := r.kind == .own && (r.mainTimer.isSome || r.waitLimit.isSome)
  let shadow (r : Record) : Bool := r.kind == .shadow && r.mainTimer.isSome
  (passOver own (fun _ r => some (tickOwn s.ctl.config.warning r)) s).andThen fun s =>
    if shadowsCount s.ctl.state then passOver shadow (fun _ r => some (tickShadow r)) s else .done s

/-- The tick at the timers that the units hold once per station: the fence timer, the census retry timer
(in FORMING and ISOLATED, not while a CENSUS due is held), the formation timer (in FORMING) and the leave
timer (in LEAVING) (R79, R143, R144, R158). -/
def tickUnits (s : State) : State :=
  { s with
    shadow := { s.shadow with
      fence := if shadowsCount s.ctl.state then s.shadow.fence.map countDown else s.shadow.fence },
    census := { s.census with
      retryTimer := if formingOrIsolated s.ctl.state && !s.census.censusDue
        then s.census.retryTimer.map countDown else s.census.retryTimer,
      formationTimer := if s.ctl.state = .forming
        then s.census.formationTimer.map countDown else s.census.formationTimer },
    ctl := { s.ctl with
      leaveTimer := if s.ctl.state = .leaving
        then s.ctl.leaveTimer.map countDown else s.ctl.leaveTimer } }

/-- A tick: the tick counter has returned to 0, and every running timer counts down; in UNCONFIGURED,
DETACHED and HALTED no timer counts (R162). -/
def tickStation (s : State) : State :=
  let s := { s with ctl := { s.ctl with tickCounter := 0 } }
  if inRing s.ctl.state then ((tickTable s).andThen fun s => .done (tickUnits s)).settle else s

/-- One REFCLK period at the tick counter: at 25000 periods it returns to 0, which is a tick (R162). While RESETN is
held low the counter stays at 0 (R163). -/
def refclkPeriod (s : State) : State :=
  if s.resetn = false then s
  else if s.ctl.tickCounter + 1 < Config.refclkPerTick then
    { s with ctl := { s.ctl with tickCounter := s.ctl.tickCounter + 1 } }
  else tickStation s

/-- An expiry at a slot: taken when its record satisfies the condition; the read is checked (R28, R32). -/
def expireSlot (i : SlotNo) (due : Record → Bool) (act : Record → State → Reading) (s : State) : State :=
  match (s.table.get i).content with
  | none => s
  | some r =>
    if due r then
      if (s.table.get i).damaged then tableCheck i s else (act r s).settle
    else s

/-- Shadow timer expiry: LAPSED, the proxy RELEASE due when objected, the wake rule, the freeing (R86). -/
def lapseShadow (i : SlotNo) (r : Record) (s : State) : Reading :=
  (wake r.range (writeRecord i (retireShadow s.ctl.state .lapsed .orphanLapsed r) s)).andThen
    fun t => .done (freeIfDone i t)

/-- Fence expiry (R91). -/
def endFence (s : State) : Reading :=
  let owed := s.shadow.fenceObjected && dueAllowed s.ctl.state
  wake wholeSpace { s with shadow := { s.shadow with fence := none, fenceObjected := false,
                                                     fenceEndDue := s.shadow.fenceEndDue || owed } }

/-- Census retry expiry: the greater of the best key's epoch and the station's epoch, plus 1 (R143). -/
def retryCensus (s : State) : State :=
  let best := (s.census.bestKey.map Key.epoch).getD s.census.epoch
  let top := if best < s.census.epoch then s.census.epoch else best
  if top = Config.maxWord32 then enterHalted .epochExhausted s else proposeEpoch (top + 1) s

/-- TICK (R162). -/
def execTick (s : State) : Host.Outcome State Fault Refusal := .next (tickStation s)

/-- BALLOT_TIMER_EXPIRY (R45). -/
def execBallotTimerExpiry (slot : SlotNo) (s : State) : Host.Outcome State Fault Refusal :=
  .next (expireSlot slot
    (fun r => r.kind == .own && r.state == .pending && r.mainTimer == some 0)
    (fun r s => ballotLoss slot r s) s)

/-- WAIT_LIMIT_EXPIRY (R48). -/
def execWaitLimitExpiry (slot : SlotNo) (s : State) : Host.Outcome State Fault Refusal :=
  .next (expireSlot slot
    (fun r => r.kind == .own && (r.state == .pending || r.state == .waiting)
      && r.waitLimit == some 0)
    (fun r s => retireSlot slot r (.failed .timeout) .withdrawn (some (.failed .timeout)) s) s)

/-- TERM_EXPIRY (R50). -/
def execTermExpiry (slot : SlotNo) (s : State) : Host.Outcome State Fault Refusal :=
  .next (expireSlot slot
    (fun r => r.kind == .own && r.state == .granted && r.mainTimer == some 0)
    (fun r s => retireSlot slot r .expired .expired (some .expired) s) s)

/-- SHADOW_TIMER_EXPIRY (R86). -/
def execShadowTimerExpiry (slot : SlotNo) (s : State) : Host.Outcome State Fault Refusal :=
  .next (expireSlot slot
    (fun r => r.kind == .shadow && (r.state == .live || r.state == .orphaned)
      && r.mainTimer == some 0)
    (fun r s => lapseShadow slot r s) s)

/-- FENCE_EXPIRY (R91). -/
def execFenceExpiry (s : State) : Host.Outcome State Fault Refusal :=
  .next (if s.shadow.fence = some 0 then (endFence s).settle else s)

/-- CENSUS_RETRY_EXPIRY (R143). -/
def execCensusRetryExpiry (s : State) : Host.Outcome State Fault Refusal :=
  .next (if s.census.retryTimer = some 0 ∧ formingOrIsolated s.ctl.state then retryCensus s else s)

/-- FORMATION_TIMER_EXPIRY (R144). -/
def execFormationTimerExpiry (s : State) : Host.Outcome State Fault Refusal :=
  .next (if s.census.formationTimer = some 0 ∧ s.ctl.state = .forming
    then (enterIsolated s).settle else s)

/-- LEAVE_TIMER_EXPIRY (R158). -/
def execLeaveTimerExpiry (s : State) : Host.Outcome State Fault Refusal :=
  .next (if s.ctl.leaveTimer = some 0 ∧ s.ctl.state = .leaving
    then (enterDetached .timedOut s).settle else s)

/-- DRAIN_COMPLETION (R157, R158). The drain condition is tested at the taking: one that has ceased to hold since the
completion came about leaves the station in LEAVING (the model's choice, notes/assumptions/25.md). -/
def execDrainCompletion (s : State) : Host.Outcome State Fault Refusal :=
  .next (if s.ctl.state = .leaving ∧ drainHolds s = true
    then (enterDetached .clean s).settle else s)

end Sys2Proof.Machine
end

