-- ==== Sys2Proof/Machine/Dispatch.lean ====
section
/-! DEFINITION. The meaning of every command. -/

namespace Sys2Proof.Machine

/-- One arm per row of spec/opcode_table.json. -/
def exec (i : Instr) (s : State) : Host.Outcome State Fault Refusal :=
  match i with
  | .resetn => Sys2Proof.Machine.execResetn s
  | .stationReset event => Sys2Proof.Machine.execStationReset event s
  | .writeCommand event => Sys2Proof.Machine.execWriteCommand event s
  | .readResult event => Sys2Proof.Machine.execReadResult event s
  | .readStatus event => Sys2Proof.Machine.execReadStatus event s
  | .writeIndex event => Sys2Proof.Machine.execWriteIndex event s
  | .readWindow event => Sys2Proof.Machine.execReadWindow event s
  | .configure => Sys2Proof.Machine.execConfigure s
  | .claim => Sys2Proof.Machine.execClaim s
  | .cancel => Sys2Proof.Machine.execCancel s
  | .release => Sys2Proof.Machine.execRelease s
  | .renew => Sys2Proof.Machine.execRenew s
  | .resync => Sys2Proof.Machine.execResync s
  | .leave => Sys2Proof.Machine.execLeave s
  | .unknownCommand => Sys2Proof.Machine.execUnknownCommand s
  | .recordNoticeDrain => Sys2Proof.Machine.execRecordNoticeDrain s
  | .stationNoticeDrain => Sys2Proof.Machine.execStationNoticeDrain s
  | .tick => Sys2Proof.Machine.execTick s
  | .ballotTimerExpiry slot => Sys2Proof.Machine.execBallotTimerExpiry slot s
  | .waitLimitExpiry slot => Sys2Proof.Machine.execWaitLimitExpiry slot s
  | .termExpiry slot => Sys2Proof.Machine.execTermExpiry slot s
  | .shadowTimerExpiry slot => Sys2Proof.Machine.execShadowTimerExpiry slot s
  | .fenceExpiry => Sys2Proof.Machine.execFenceExpiry s
  | .censusRetryExpiry => Sys2Proof.Machine.execCensusRetryExpiry s
  | .formationTimerExpiry => Sys2Proof.Machine.execFormationTimerExpiry s
  | .leaveTimerExpiry => Sys2Proof.Machine.execLeaveTimerExpiry s
  | .drainCompletion => Sys2Proof.Machine.execDrainCompletion s
  | .frameArrival bytes => Sys2Proof.Machine.execFrameArrival bytes s
  | .receiveLockGained port groups => Sys2Proof.Machine.execReceiveLockGained port groups s
  | .receiveLockLost port cause => Sys2Proof.Machine.execReceiveLockLost port cause s
  | .farLockSet port inFrame group => Sys2Proof.Machine.execFarLockSet port inFrame group s
  | .farLockClear port => Sys2Proof.Machine.execFarLockClear port s
  | .token => Sys2Proof.Machine.execToken s
  | .advertise => Sys2Proof.Machine.execAdvertise s
  | .rebase => Sys2Proof.Machine.execRebase s
  | .advertiseSend => Sys2Proof.Machine.execAdvertiseSend s
  | .frameTaking => Sys2Proof.Machine.execFrameTaking s
  | .scanVisit => Sys2Proof.Machine.execScanVisit s
  | .dueService => Sys2Proof.Machine.execDueService s
  | .arbiterChoice => Sys2Proof.Machine.execArbiterChoice s
  | .frameDeparture => Sys2Proof.Machine.execFrameDeparture s

end Sys2Proof.Machine
end

