-- ==== Sys2Proof/Machine/Step.lean ====
section
/-! DEFINITION. One step of the station. -/

namespace Sys2Proof.Machine

/-- The command at the front of the queue is taken; with no command waiting one REFCLK period passes
(R162; notes/assumptions/3.md). -/
def step (s : State) : Host.Outcome State Fault Refusal :=
  match s.pending with
  | [] => .next (refclkPeriod s)
  | c :: rest => exec c { s with pending := rest }

/-- The command that a word spells, put at the front of the queue; no word spells one. -/
def State.withFetchWord (s : State) (nbits w : Nat) : State :=
  match decodeTableWord nbits w with
  | none => s
  | some c => { s with pending := c :: s.pending }

end Sys2Proof.Machine
end

