-- ==== Sys2Proof/Safety.lean ====
section
/-! DEFINITION. What holds of every state the station reaches: bounds, the ports, the queues, the records, the units,
the epoch, and the grants. Each part is a statement about the data book's rules, cited in its docstring. -/

namespace Sys2Proof.Machine

/-- The record in a slot, if any. -/
def State.record (s : State) (i : SlotNo) : Option Record := (s.table.get i).content

/-- No slot's content disagrees with its check value (R28). -/
def State.undamaged (s : State) : Prop := ∀ i, (s.table.get i).damaged = false

/-- The station is out of the ring: both ports are OFF there (R98, R110). -/
def outOfRing (st : StationState) : Bool := !inRing st

/-- The bounds of queues, counts and indexes (R18, R63, R96, R102, R104, R112, R123, R162, R168, R172, R178), and the
head record that a READ_RESULT shows stays at the head (R175). -/
structure InBounds (s : State) : Prop where
  transit : s.fh.transit.length ≤ Config.transitDepth
  origination : s.fh.origination.length ≤ Config.originationDepth
  arbiter : s.fh.arbiterPos ≤ Config.arbiterLimit
  badRun : s.up.badRun ≤ Config.badFrameLimit
  credit : s.down.credit ≤ Config.fullCredit
  commands : s.host.commands.length ≤ Config.commandDepth
  entries : ∀ e ∈ s.host.commands, e.bytes.length = 20
  results : s.host.results.length ≤ Config.resultDepth
  index : s.host.index.group ≤ lastGroup s.host.index.space
  ticks : s.ctl.tickCounter < Config.refclkPerTick
  quota : ownCount s ≤ Config.ownQuota
  scan : ∀ sc, s.scan = some sc → sc.nextSlot < 64
  shown : ∀ x, s.host.spi = some x → x.headShown = true →
    ∃ r rest, s.host.results = r :: rest ∧ x.reply = resultBytes r

/-- The ports, BYPASSN and the lanes against the station state and each other (R95 to R102, R105, R109,
R110). -/
structure LinksFit (s : State) : Prop where
  upOff : s.up.link = .off ↔ outOfRing s.ctl.state = true
  downOff : s.down.link = .off ↔ outOfRing s.ctl.state = true
  bypass : s.ctl.bypassn = inRing s.ctl.state
  configured : inRing s.ctl.state = true → s.ctl.configured = true
  upLock : readsSymbols s.up.link = true → s.up.receiveLock = true
  downLock : readsSymbols s.down.link = true → s.down.receiveLock = true
  upFar : s.up.farLock = true → s.up.receiveLock = true
  downFar : s.down.farLock = true → s.down.receiveLock = true
  upUp : s.up.link = .up → s.up.farLock = true
  downUp : s.down.link = .up → s.down.farLock = true
  offLock : outOfRing s.ctl.state = true → s.up.receiveLock = false ∧ s.down.receiveLock = false
  offRun : outOfRing s.ctl.state = true → s.up.badRun = 0
  owed : s.up.link = .creditWait → s.up.advertisementOwed = true
  notOwed : s.up.link = .off ∨ s.up.link = .training → s.up.advertisementOwed = false
  credit : s.down.link ≠ .up → s.down.credit = 0
  sending : s.fh.inSend.isSome = true → readsSymbols s.down.link = true
  rebased : ∀ x, s.fh.inSend = some x → s.down.link = .creditWait → 0 < x.rebases
  holding : s.fh.transit ≠ [] → s.up.link = .up

/-- Ready frames, then at most one frame in hand, then awaiting frames (R113, R114). -/
def ordered : List TransitEntry → Bool
  | [] => true
  | e :: es =>
    match e.cond with
    | .ready => ordered es
    | _ => es.all fun x => x.cond == .awaiting

/-- The frame of a body is a BALLOT. -/
def isBallot (f : Frame) : Bool :=
  match f.body with
  | .ballot _ => true
  | _ => false

/-- The transit queue stands in its order; between events a frame is in hand exactly while a scan runs, and
is then a BALLOT scanned in ACTIVE or LEAVING; a frame in send that has not left its queue is its oldest
frame, a transit frame being ready (R63, R64, R113, R114, R128, R130). -/
structure QueuesFit (s : State) : Prop where
  order : ordered s.fh.transit = true
  hand : (handFrame s).isSome = s.scan.isSome
  scanned : ∀ f, handFrame s = some f → isBallot f = true ∧ dueAllowed s.ctl.state = true
  transitSend : ∀ x, s.fh.inSend = some x → x.source = .transit → x.left = false →
    s.fh.transit.head? = some { frame := x.frame, cond := .ready }
  originationSend : ∀ x, s.fh.inSend = some x → x.source = .origination → x.left = false →
    s.fh.origination.head? = some x.frame
  quiet : outOfRing s.ctl.state = true →
    s.fh.transit = [] ∧ s.fh.origination = [] ∧ s.fh.inSend = none ∧ s.fh.arbiterPos = 0

/-- The due marks a record may carry (R15, R21). -/
def dueFits (st : StationState) (r : Record) : Due → Prop
  | .ballot => dueAllowed st = true ∧ r.kind = .own ∧ r.state = .pending
  | .announce _ => dueAllowed st = true ∧ r.kind = .own ∧ r.state = .granted
  | .release _ => dueAllowed st = true ∧ r.state = .retired

/-- The states in which a record may stand, by kind and station state (R15, R29, R62, R79, R94). -/
def stateFits (st : StationState) (r : Record) : Prop :=
  match r.kind, r.state with
  | .own, .pending => st = .active
  | .own, .waiting => st = .active ∨ st = .forming
  | .own, .granted => st = .active ∨ st = .forming
  | .own, .retired => st ≠ .unconfigured ∧ (r.due.isSome ∨ r.notice.isSome) ∧
      (st = .halted → r.notice.isSome)
  | .shadow, .live => st = .active ∨ st = .forming ∨ st = .leaving
  | .shadow, .orphaned => st = .active ∨ st = .forming ∨ st = .leaving
  | .shadow, .retired => (st = .active ∨ st = .leaving) ∧ r.due.isSome
  | _, _ => False

/-- The timers, the wait cause, the outcome, release-seen, the notice and the loss count of a record fit its
kind and state (R14, R15, R16, R24, R25, R47). -/
structure FieldsFit (r : Record) : Prop where
  untimed : r.state = .waiting ∨ r.state = .retired → r.mainTimer = none
  timed : r.state = .granted ∨ r.state = .live ∨ r.state = .orphaned → r.mainTimer.isSome
  limit : r.waitLimit.isSome → r.kind = .own ∧ (r.state = .pending ∨ r.state = .waiting)
  cause : r.waitCause.isSome ↔ r.state = .waiting
  outcome : r.outcome.isSome ↔ r.state = .retired
  seen : r.releaseSeen = true → r.kind = .own ∧ r.state = .pending
  notice : r.notice.isSome → r.kind = .own
  loss : r.lossCount ≤ Config.lossLimit

/-- Every record fits its kind, its state and the station state. -/
def RecordsFit (s : State) : Prop :=
  ∀ i r, s.record i = some r →
    stateFits s.ctl.state r ∧ FieldsFit r ∧ ∀ d, r.due = some d → dueFits s.ctl.state r d

/-- The fence, the dues, the timers, the leave outcome and the halt cause against the station state, and every item at
its reset value while RESETN is held low (R78, R91, R94, R143 to R145, R147, R156 to R160, R163). -/
structure UnitsFit (s : State) : Prop where
  fence : s.shadow.fence.isSome → s.ctl.state = .active ∨ s.ctl.state = .forming ∨ s.ctl.state = .leaving
  objected : s.shadow.fenceObjected = true → s.shadow.fence.isSome
  incomplete : s.shadow.incomplete = true →
    s.ctl.state = .active ∨ s.ctl.state = .forming ∨ s.ctl.state = .leaving
  fenceEnd : s.shadow.fenceEndDue = true → dueAllowed s.ctl.state = true
  census : s.census.censusDue = true → formingOrIsolated s.ctl.state = true
  roster : s.census.rosterDue.isSome → formingOrIsolated s.ctl.state = true
  retry : s.census.retryTimer.isSome → formingOrIsolated s.ctl.state = true
  formation : s.census.formationTimer.isSome ↔ s.ctl.state = .forming
  leaveTimer : s.ctl.leaveTimer.isSome ↔ s.ctl.state = .leaving
  leaveOutcome : s.ctl.leaveOutcome.isSome → s.ctl.state = .detached ∨ s.ctl.state = .halted
  detached : s.ctl.state = .detached → s.ctl.leaveOutcome.isSome
  halted : s.ctl.haltCause.isSome ↔ s.ctl.state = .halted
  held : s.resetn = false → s = { State.heldReset with pending := s.pending }

/-- The best key stands above the epoch while the ring forms and at it once adopted; a ROSTER due names the best
key (R131 to R133, R137, R138, R141). -/
structure EpochFit (s : State) : Prop where
  unborn : s.ctl.state = .unconfigured → s.census.epoch = 0 ∧ s.census.bestKey = none
  forming : formingOrIsolated s.ctl.state = true →
    ∃ k, s.census.bestKey = some k ∧ s.census.epoch < k.epoch
  adopted : dueAllowed s.ctl.state = true → ∃ k, s.census.bestKey = some k ∧ k.epoch = s.census.epoch
  roster : ∀ d, s.census.rosterDue = some d → formingOrIsolated s.ctl.state = true ∧
    s.census.bestKey = some { epoch := d.epoch, origin := s.stationId }
  queued : dueAllowed s.ctl.state = false → ∀ f ∈ s.fh.origination, rosterDueOf f = none

/-- An own record. -/
def isOwn (r : Record) : Prop := r.kind = .own

/-- An own claim that is PENDING or WAITING. -/
def isClaim (r : Record) : Prop := r.kind = .own ∧ (r.state = .pending ∨ r.state = .waiting)

/-- An own record that is GRANTED, or PENDING with its ballot built: its local scan was clear. -/
def isAhead (r : Record) : Prop :=
  r.kind = .own ∧ (r.state = .granted ∨ (r.state = .pending ∧ r.due ≠ some .ballot))

/-- Two records conflict (R4). -/
def inConflict (r q : Record) : Prop := conflicts r.range r.mode q.range q.mode = true

/-- Own records that are GRANTED or carry a built ballot stand apart, and a claim in conflict with a built ballot
follows it; in ACTIVE claims carry the current epoch and different counts, none above the clock or the
limit of R11 (R35, R42, R58). -/
structure GrantsApart (s : State) : Prop where
  apart : ∀ i j r q, i ≠ j → s.record i = some r → s.record j = some q → isAhead r → isAhead q →
    ¬ inConflict r q
  ahead : ∀ i j r q, i ≠ j → s.record i = some r → s.record j = some q →
    isAhead r → r.state = .pending → isClaim q → inConflict r q → precedes r.identity q.identity = true
  stamps : s.ctl.state = .active → ∀ i r, s.record i = some r → isClaim r →
    r.identity.epoch = s.census.epoch ∧ r.identity.count ≤ s.clock ∧
      r.identity.count ≤ Config.clockLimit
  distinct : s.ctl.state = .active → ∀ i j r q, i ≠ j → s.record i = some r → s.record j = some q →
    isClaim r → isClaim q → r.identity.count ≠ q.identity.count

/-- The BALLOT of a frame. -/
def ballotOf (f : Frame) : Option Ballot :=
  match f.body with
  | .ballot b => some b
  | _ => none

/-- A claim whose ballot is built and has not left: PENDING, nothing due, the ballot timer absent (R38, R39). -/
def isUnsent (b : Ballot) (r : Record) : Prop :=
  r.state = .pending ∧ r.due ≠ some .ballot ∧ r.mainTimer = none ∧ r.issue = b.issue

/-- The built ballots that have not left: the queue holds ballots in ACTIVE and LEAVING alone, under the station's
epoch and each with a count of its own, none above the clock; a claim whose count a ballot names is unsent; a
ballot in send that has left its queue is of an earlier epoch once the station is ACTIVE; a claim that owes its
BALLOT has no ballot timer (R37 to R39, R58, R123, R126). -/
structure BallotsFit (s : State) : Prop where
  queued : ∀ f ∈ s.fh.origination, ∀ b, ballotOf f = some b →
    dueAllowed s.ctl.state = true ∧ f.epoch = s.census.epoch ∧ b.count ≤ s.clock
  once : s.fh.origination.Pairwise fun f g =>
    ∀ b c, ballotOf f = some b → ballotOf g = some c → b.count ≠ c.count
  unsent : s.ctl.state = .active → ∀ f ∈ s.fh.origination, ∀ b, ballotOf f = some b →
    ∀ i r, s.record i = some r → isClaim r → r.identity.count = b.count → isUnsent b r
  left : ∀ x, s.fh.inSend = some x → x.source = .origination → x.left = true → ∀ b, ballotOf x.frame = some b →
    x.frame.epoch ≤ s.census.epoch ∧ (dueAllowed s.ctl.state = true → x.frame.epoch < s.census.epoch)
  owed : ∀ i r, s.record i = some r → r.due = some .ballot → r.mainTimer = none

/-! ### The situations that statements speak of -/

/-- The arbiter grants the command handler, and the oldest entry of the command queue is `e` (R170, R173;
notes/assumptions/28.md). -/
structure Granted (s : State) (e : CommandEntry) (rest : List CommandEntry) : Prop where
  head : s.host.commands = e :: rest
  place : s.host.results.length < Config.resultDepth
  stateMark : s.ctl.stateMark = none
  faultMark : s.ctl.faultMark = none
  notices : ∀ i r, s.record i = some r → r.notice = none

/-- The state with an entry taken and its completion placed at the tail of the result queue, and no other
effect (R170, R171). -/
def completed (s : State) (e : CommandEntry) (rest : List CommandEntry) (code : CompletionCode)
    (slot : Byte) (tag : Word16) : State :=
  { s with host := { s.host with
      commands := rest,
      results := s.host.results ++ [.completion code (byteAt e.bytes 0) e.seq slot tag] } }

/-- The STATE mark as an event sets it (R148). -/
def stateMarkOf (st : StationState) (s t : State) (orphans : Nat) (fence : Bool)
    (out : Option LeaveOutcome) : Option StateMark :=
  some { notice := { state := st, epoch := t.census.epoch, members := t.census.roster.length,
                     orphans := orphans, fence := fence, outcome := out },
         replaced := s.ctl.stateMark.isSome }

/-- What the entry to HALTED makes of a state (R29, R160). -/
structure Halts (cause : HaltCause) (s t : State) : Prop where
  control : t.ctl = { s.ctl with
    state := .halted, haltCause := some cause, bypassn := false, leaveTimer := none,
    faultMark := some { cause := .halt cause, replaced := s.ctl.faultMark.isSome } }
  upPort : t.up = { State.reset.up with sent := s.up.sent }
  downPort : t.down = { State.reset.down with sent := t.down.sent }
  queues : t.fh = { State.reset.fh with outstanding := s.fh.outstanding }
  scanner : t.scan = none
  shadow : t.shadow = State.reset.shadow
  census : t.census = { s.census with
    censusDue := false, rosterDue := none, retryTimer := none, formationTimer := none }
  clock : t.clock = s.clock
  kept : ∀ i r, (s.table.get i).damaged = false → s.record i = some r → r.kind = .own → r.state = .retired →
    r.notice.isSome → t.record i = some { r with due := none }
  freed : ∀ i, (∀ r, (s.table.get i).damaged = false → s.record i = some r → r.kind = .own →
    r.state = .retired → r.notice = none) → t.record i = none
  sound : t.undamaged

/-- What an entry to FORMING from ACTIVE makes of the lease table (R22, R26, R56, R93). -/
structure FormingTable (s t : State) : Prop where
  free : ∀ i, s.record i = none → t.record i = none
  pending : ∀ i r, s.record i = some r → r.kind = .own → r.state = .pending →
    t.record i = some (enterWaiting .epoch r)
  claims : ∀ i r, s.record i = some r → r.kind = .own → r.state = .waiting ∨ r.state = .granted →
    t.record i = some { r with releaseSeen := false, due := none }
  shadows : ∀ i r, s.record i = some r → r.kind = .shadow → r.state ≠ .retired →
    t.record i = some { r with due := none }
  retired : ∀ i r, s.record i = some r → r.kind = .own → r.state = .retired → r.notice.isSome →
    t.record i = some { r with releaseSeen := false, due := none }
  freed : ∀ i r, s.record i = some r → r.state = .retired → r.notice = none → t.record i = none
  sound : t.undamaged

/-- What an entry to FORMING from ACTIVE by a cause other than a foreign CENSUS does beside the ports and the
transit queue (R133, R149). -/
structure Forms (s t : State) : Prop where
  control : t.ctl = { s.ctl with
    state := .forming, stateMark := stateMarkOf .forming s t (orphanCount t) s.fenceActive none }
  census : t.census = { s.census with
    bestKey := some { epoch := s.census.epoch + 1, origin := s.stationId }, censusDue := true,
    rosterDue := none, retryTimer := none, formationTimer := some s.ctl.config.formationLimit }
  shadow : t.shadow = { s.shadow with fenceEndDue := false }
  table : FormingTable s t
  origination : t.fh.origination = []
  scanner : t.scan = none
  clock : t.clock = s.clock
  outstanding : t.fh.outstanding = s.fh.outstanding

/-- What the entry to DETACHED makes of a state (R27, R61, R94, R159). -/
structure Detaches (out : LeaveOutcome) (s t : State) : Prop where
  control : t.ctl = { s.ctl with
    state := .detached, leaveTimer := none, leaveOutcome := some out, bypassn := false,
    stateMark := stateMarkOf .detached s t 0 false (some out) }
  upPort : t.up = { State.reset.up with sent := s.up.sent }
  downPort : t.down = { State.reset.down with sent := t.down.sent }
  queues : t.fh = { State.reset.fh with outstanding := s.fh.outstanding }
  scanner : t.scan = none
  shadow : t.shadow = State.reset.shadow
  census : t.census = { s.census with
    censusDue := false, rosterDue := none, retryTimer := none, formationTimer := none }
  clock : t.clock = s.clock
  shadows : ∀ i r, s.record i = some r → r.kind = .shadow → t.record i = none
  free : ∀ i, s.record i = none → t.record i = none
  freed : ∀ i r, s.record i = some r → r.state = .retired → r.notice = none → t.record i = none
  kept : ∀ i r, s.record i = some r → r.kind = .own → r.state ≠ .retired ∨ r.notice.isSome →
    t.record i = some { r with due := none }
  sound : t.undamaged

/-- What the wake rule makes of a slot's record, in ACTIVE and LEAVING, when it takes the ranges that `hit` accepts;
outside them it has no effect (R46). -/
def WakesOver (hit : Range → Bool) (s t : State) (i : SlotNo) : Prop :=
  t.record i = (s.record i).map fun r =>
    if dueAllowed s.ctl.state = true ∧ r.kind = .own ∧ hit r.range = true then
      if r.state = .waiting then newIssue r
      else if r.state = .pending then { r with releaseSeen := true } else r
    else r

/-- What the wake rule makes of a slot's record for one released range (R46). -/
def Wakes (range : Range) (s t : State) (i : SlotNo) : Prop := WakesOver (overlaps · range) s t i

/-- The own record of a slot retires with an outcome, the RELEASE of a reason being due in ACTIVE or LEAVING when it was
GRANTED or is objected, and with a notice if the outcome has one; it is freed at once when it holds neither
mark; then the wake rule has run with its range (R25, R46, R55). -/
structure Retires (i : SlotNo) (r : Record) (out : RecOutcome) (reason : ReleaseReason)
    (notice : Option NoticeMark) (s t : State) : Prop where
  slot : t.record i =
    (let due := if dueAllowed s.ctl.state = true ∧ (r.state = .granted ∨ r.objected = true)
      then some (Due.release reason) else none
     if due = none ∧ notice = none then none
     else some { r with
       state := .retired, outcome := some out, mainTimer := none, waitLimit := none, waitCause := none,
       releaseSeen := false, due := due, notice := notice })
  others : ∀ j, j ≠ i → Wakes r.range s t j
  sound : t.undamaged

/-- An event of the upstream port's departure from UP, beside the port itself: the transit queue is flushed without
tokens and a scan abandoned; a downstream port in UP is rebased, one REBASE more waiting behind a frame in send; ACTIVE goes to FORMING, LEAVING to DETACHED, and
FORMING and ISOLATED stay (R75, R76, R105, R109, R121). -/
structure UpstreamLost (s t : State) : Prop where
  queue : t.fh.transit = [] ∧ t.scan = none ∧ t.fh.arbiterPos = 0
  active : s.ctl.state = .active → s.census.epoch ≠ Config.maxWord32 → Forms s t
  leaving : s.ctl.state = .leaving → Detaches .interrupted s t
  unmoved : formingOrIsolated s.ctl.state = true → t.ctl = s.ctl ∧ t.census = s.census ∧ t.table = s.table ∧
    t.shadow = s.shadow ∧ t.clock = s.clock ∧ t.fh.origination = s.fh.origination
  port : s.ctl.state ≠ .leaving → s.census.epoch ≠ Config.maxWord32 →
    t.up.link = .training ∧ t.up.advertisementOwed = false ∧ t.up.sent = s.up.sent
  rebase : s.ctl.state ≠ .leaving → s.census.epoch ≠ Config.maxWord32 → s.down.link = .up →
    t.down = { s.down with
      link := .creditWait, credit := 0,
      sent := if s.fh.inSend.isSome then s.down.sent else s.down.sent ++ [.rebase] } ∧
    t.fh.inSend.map InSend.rebases = s.fh.inSend.map fun x => x.rebases + 1
  undisturbed : s.ctl.state ≠ .leaving → s.census.epoch ≠ Config.maxWord32 → s.down.link ≠ .up →
    t.down = s.down
  host : t.host = s.host ∨ s.census.epoch = Config.maxWord32

/-- An event of the downstream port's departure from UP to TRAINING: its send is cut off, its credit falls to 0, the
transit queue is flushed with a TOKEN for each frame when the upstream port is UP, a scan is abandoned, and the
station moves as for the upstream port (R95, R101, R103, R109, R121). -/
structure DownstreamLost (s t : State) : Prop where
  queue : t.fh.transit = [] ∧ t.scan = none ∧ t.fh.arbiterPos = 0 ∧ t.fh.inSend = none
  active : s.ctl.state = .active → s.census.epoch ≠ Config.maxWord32 → Forms s t
  leaving : s.ctl.state = .leaving → t.ctl.state = .detached ∧ t.ctl.leaveOutcome = some .interrupted ∧
    t.up.link = .off ∧ t.down.link = .off
  unmoved : formingOrIsolated s.ctl.state = true → t.ctl = s.ctl ∧ t.census = s.census ∧ t.table = s.table ∧
    t.shadow = s.shadow ∧ t.clock = s.clock ∧ t.fh.origination = s.fh.origination
  port : s.ctl.state ≠ .leaving → s.census.epoch ≠ Config.maxWord32 →
    t.down.link = .training ∧ t.down.credit = 0 ∧
    t.down.sent = s.down.sent ++ (s.fh.inSend.map fun x => .cutOff x.bytes).toList
  tokens : s.ctl.state ≠ .leaving → s.census.epoch ≠ Config.maxWord32 → t.up = { s.up with
    sent := if s.up.link = .up then s.up.sent ++ List.replicate s.fh.transit.length .token
      else s.up.sent }
  host : t.host = s.host ∨ s.census.epoch = Config.maxWord32

/-- The frame that FRAME_TAKING takes: no frame is in hand, `ready` frames stand before the oldest awaiting one (R113,
R114). -/
structure Takes (s : State) (ready : List TransitEntry) (f : Frame) (later : List TransitEntry) : Prop where
  ring : inRing s.ctl.state = true
  queue : s.fh.transit = ready ++ { frame := f, cond := .awaiting } :: later
  before : ∀ e ∈ ready, e.cond = .ready
  after : ∀ e ∈ later, e.cond = .awaiting

/-- The taken frame has left the transit queue, its slot's TOKEN sent when the upstream port is UP (R103, R113). -/
def leftQueue (s : State) (ready later : List TransitEntry) : State :=
  { s with
    up := { s.up with sent := if s.up.link = .up then s.up.sent ++ [.token] else s.up.sent }
    fh := { s.fh with transit := ready ++ later } }

/-- The taken frame stands ready in its place, as `f`, with 1 added to its hop count (R120). -/
def forwarded (s : State) (ready : List TransitEntry) (f : Frame) (later : List TransitEntry) : State :=
  { s with fh := { s.fh with
      transit := ready ++ { frame := { f with hop := f.hop + 1 }, cond := .ready } :: later } }

/-- An own frame has left the transit queue: the outstanding count falls for a BALLOT, ANNOUNCE or RELEASE of the
station's epoch, not below 0 (R116, R122). -/
def stripped (s : State) (ready : List TransitEntry) (f : Frame) (later : List TransitEntry) : State :=
  { leftQueue s ready later with fh := { (leftQueue s ready later).fh with
      outstanding := if isCounted f = true ∧ f.epoch = s.census.epoch ∧ s.fh.outstanding ≠ 0
        then s.fh.outstanding - 1 else s.fh.outstanding } }

/-- What adoption of an epoch and a member list makes of a state, beside the queues (R7, R9, R37, R58, R88, R89,
R141). -/
structure Adopts (epoch : Word32) (members : List StationId) (s t : State) : Prop where
  census : t.census = { s.census with
    epoch := epoch, roster := members, previousRoster := s.census.roster, censusDue := false,
    rosterDue := none, retryTimer := none, formationTimer := none }
  control : t.ctl = { s.ctl with
    state := .active, stateMark := stateMarkOf .active s t (orphanCount t) t.fenceActive none }
  outstanding : t.fh.outstanding = 0
  clock : t.clock.toNat = s.table.count fun r => r.kind == .own && r.state == .waiting
  waiting : ∀ i r, s.record i = some r → r.kind = .own → r.state = .waiting →
    ∃ count : Word32, 1 ≤ count.toNat ∧ count.toNat ≤ t.clock.toNat ∧ t.record i = some { r with
      state := .pending, waitCause := none, mainTimer := none, releaseSeen := false, due := some .ballot,
      issue := 0, lossCount := 0,
      identity := { epoch := epoch, count := count, id := s.stationId } }
  order : ∀ i j r q r' q', s.record i = some r → s.record j = some q → r.kind = .own → q.kind = .own →
    r.state = .waiting → q.state = .waiting → precedes r.identity q.identity = true →
    t.record i = some r' → t.record j = some q' → r'.identity.count.toNat < q'.identity.count.toNat
  granted : ∀ i r, s.record i = some r → r.kind = .own → r.state = .granted →
    t.record i = some { r with due := some (.announce .reannounce) }
  orphaned : ∀ i r, s.record i = some r → r.kind = .shadow → r.state = .live →
    r.identity.id ∈ s.census.roster → r.identity.id ∉ members →
    t.record i = some { r with state := .orphaned, mainTimer := some s.ctl.config.orphanHold }
  live : ∀ i r, s.record i = some r → r.kind = .shadow → r.state = .live →
    r.identity.id ∉ s.census.roster ∨ r.identity.id ∈ members → t.record i = some r
  others : ∀ i r, s.record i = some r → r.state = .pending ∨ r.state = .retired ∨ r.state = .orphaned →
    t.record i = some r
  free : ∀ i, s.record i = none → t.record i = none
  fenced : s.shadow.incomplete = true → (∃ m ∈ s.census.roster, m ∉ members) →
    t.shadow = { s.shadow with incomplete := false, fence := some s.ctl.config.orphanHold }
  unfenced : s.shadow.incomplete = false ∨ (∀ m ∈ s.census.roster, m ∈ members) →
    t.shadow = { s.shadow with incomplete := false }
  ports : t.up = s.up ∧ t.down = s.down ∧ t.scan = s.scan ∧ t.host = s.host
  sound : t.undamaged

end Sys2Proof.Machine
end

