-- ==== Sys2Proof/WellFormed.lean ====
section
/-! DEFINITION. The commands whose operands describe an event of their row. `exec` gives an ill-formed command
no effect (notes/assumptions/2.md). -/

namespace Sys2Proof

/-- The groups of RECEIVE_LOCK_GAINED give symbol alignment; the cause of RECEIVE_LOCK_LOST unlocks the port's
receiver; the group of FAR_LOCK_SET is one of the normal stream (R97, R181); the code byte of a transaction is not
that of another row (R165). Every other operand may take every value. -/
def Instr.wellFormed : Instr → Bool
  | .receiveLockGained _ groups => Machine.givesAlignment groups
  | .receiveLockLost port cause => Machine.unlocks port cause
  | .farLockSet port inFrame group => Machine.receive port inFrame group == .normal
  | .resetn => true
  | .stationReset e => Machine.eventFits .stationReset e
  | .writeCommand e => Machine.eventFits .writeCommand e
  | .readResult e => Machine.eventFits .readResult e
  | .readStatus e => Machine.eventFits .readStatus e
  | .writeIndex e => Machine.eventFits .writeIndex e
  | .readWindow e => Machine.eventFits .readWindow e
  | .configure => true
  | .claim => true
  | .cancel => true
  | .release => true
  | .renew => true
  | .resync => true
  | .leave => true
  | .unknownCommand => true
  | .recordNoticeDrain => true
  | .stationNoticeDrain => true
  | .tick => true
  | .ballotTimerExpiry _ => true
  | .waitLimitExpiry _ => true
  | .termExpiry _ => true
  | .shadowTimerExpiry _ => true
  | .fenceExpiry => true
  | .censusRetryExpiry => true
  | .formationTimerExpiry => true
  | .leaveTimerExpiry => true
  | .drainCompletion => true
  | .frameArrival _ => true
  | .farLockClear _ => true
  | .token => true
  | .advertise => true
  | .rebase => true
  | .advertiseSend => true
  | .frameTaking => true
  | .scanVisit => true
  | .dueService => true
  | .arbiterChoice => true
  | .frameDeparture => true

end Sys2Proof
end

