-- ==== Sys2Proof/Certificates/Slice0/Obligations.lean ====
section
/-! DEFINITION. The statements for the provers. -/

open Sys2Proof Sys2Proof.Machine

/-! ### Relations and formats -/

/-- R2: overlap, on the unit numbers alone. -/
def Obligations.OverlapTest : Prop :=
  (∀ a b : Range, overlaps a b = true ↔
    a.first.toNat ≤ b.last.toNat ∧ b.first.toNat ≤ a.last.toNat) ∧
  (∀ a b : Range, overlaps a b = overlaps b a) ∧
  (∀ a : Range, a.first.toNat ≤ a.last.toNat → overlaps a a = true) ∧
  (∀ a : Range, overlaps wholeSpace a = true) ∧
  overlaps ⟨100, 199⟩ ⟨100, 199⟩ = true ∧ overlaps ⟨100, 199⟩ ⟨150, 150⟩ = true ∧
  overlaps ⟨100, 199⟩ ⟨199, 300⟩ = true ∧ overlaps ⟨100, 199⟩ ⟨200, 300⟩ = false

/-- R4: conflict is overlap with at least one EXCLUSIVE; the same test decides for a ballot and for a claim under
local scan, a ballot's mode byte being SHARED at 01h and EXCLUSIVE at every other value (R3), and the wake rule and the
setting of release-seen use overlap without the mode. -/
def Obligations.ConflictTest : Prop :=
  (∀ a m b n, conflicts a m b n = true ↔ overlaps a b = true ∧ (m = .exclusive ∨ n = .exclusive)) ∧
  (∀ a m b n, conflicts a m b n = conflicts b n a m) ∧
  (∀ a b, conflicts a .shared b .shared = false) ∧
  (∀ f b r, objectsTo f b r = true →
    conflicts r.range r.mode b.range (if b.mode = 0x01 then .shared else .exclusive) = true) ∧
  (∀ stamp range mode r, standsInTheWay stamp range mode r = true →
    conflicts r.range r.mode range mode = true) ∧
  (∀ range r, r.kind = .own → r.state = .waiting → overlaps r.range range = true →
    wakeRecord (overlaps · range) r = newIssue r) ∧
  (∀ range r, r.kind = .own → r.state = .pending → overlaps r.range range = true →
    wakeRecord (overlaps · range) r = { r with releaseSeen := true })

/-- R6, R132: stamps are totally ordered by epoch, count and ID, lower first; census keys by epoch and origin ID,
higher above. -/
def Obligations.StampAndKeyOrder : Prop :=
  (∀ x y : Stamp, precedes x y = true ↔ x.epoch.toNat < y.epoch.toNat ∨
    (x.epoch = y.epoch ∧ (x.count.toNat < y.count.toNat ∨
      (x.count = y.count ∧ x.id.toNat < y.id.toNat)))) ∧
  (∀ x, precedes x x = false) ∧
  (∀ x y, x ≠ y → (precedes x y = true ∧ precedes y x = false) ∨
    (precedes x y = false ∧ precedes y x = true)) ∧
  (∀ x y z, precedes x y = true → precedes y z = true → precedes x z = true) ∧
  (∀ x y : Key, keyAbove x y = true ↔ y.epoch.toNat < x.epoch.toNat ∨
    (x.epoch = y.epoch ∧ y.origin.toNat < x.origin.toNat)) ∧
  (∀ x y, x ≠ y → (keyAbove x y = true ∧ keyAbove y x = false) ∨
    (keyAbove x y = false ∧ keyAbove y x = true))

/-- A frame the part can send: member lists of 1 to 16 IDs (R182). -/
def frameFits (f : Frame) : Prop :=
  match f.body with
  | .census members => 1 ≤ members.length ∧ members.length ≤ 16
  | .roster members => 1 ≤ members.length ∧ members.length ≤ 16
  | _ => True

/-- The member count and the members, one per byte from byte 8 on (R182). -/
def membersLaidOut (bs : List Byte) (members : List StationId) : Prop :=
  bs.length = 10 + members.length ∧ (byteAt bs 7).toNat = members.length ∧
  ∀ i (h : i < members.length), (byteAt bs (8 + i)).toNat = (members[i]).toNat

/-- The places of a body's fields (table of 11.2). -/
def bodyLaidOut (bs : List Byte) : Body → Prop
  | .census members => byteAt bs 0 = 0x11 ∧ membersLaidOut bs members
  | .roster members => byteAt bs 0 = 0x12 ∧ membersLaidOut bs members
  | .ballot b => byteAt bs 0 = 0x21 ∧ bs.length = 29 ∧ fieldAt bs 7 4 = b.count.toNat ∧
    byteAt bs 11 = b.issue ∧ byteAt bs 12 = b.mode ∧ fieldAt bs 13 5 = b.range.first.toNat ∧
    fieldAt bs 18 5 = b.range.last.toNat ∧ fieldAt bs 23 2 = b.visited.toNat ∧
    fieldAt bs 25 2 = b.objectors.toNat
  | .announce a => byteAt bs 0 = 0x31 ∧ bs.length = 31 ∧ fieldAt bs 7 4 = a.leaseEpoch.toNat ∧
    fieldAt bs 11 4 = a.count.toNat ∧ byteAt bs 15 = a.cause ∧ byteAt bs 16 = a.mode ∧
    fieldAt bs 17 5 = a.range.first.toNat ∧ fieldAt bs 22 5 = a.range.last.toNat ∧
    fieldAt bs 27 2 = a.term.toNat
  | .release r => byteAt bs 0 = 0x32 ∧ bs.length = 30 ∧ (byteAt bs 7).toNat = r.holder.toNat ∧
    byteAt bs 8 = r.reason ∧ fieldAt bs 9 4 = r.leaseEpoch.toNat ∧ fieldAt bs 13 4 = r.count.toNat ∧
    byteAt bs 17 = r.mode ∧ fieldAt bs 18 5 = r.range.first.toNat ∧ fieldAt bs 23 5 = r.range.last.toNat

/-- One bit enters the CRC-16 register of generator 1021h (R183). -/
def crcShiftIn (r : Word16) (bit : Bool) : Word16 :=
  if r.msb != bit then (r <<< 1) ^^^ 0x1021 else r <<< 1

/-- R107, R182 to R184: every frame the part sends has its fields at the places of 11.2, most significant byte first, and
ends in the CRC of the bytes before; it passes the checks of the port that receives it, and every field is read back
as it was sent. The register of the CRC starts at FFFFh, and the bits of each byte enter most significant first. That
reserved bits are sent 0 on a forwarded frame too is the model's choice (notes/assumptions/10.md). -/
def Obligations.FrameSentIsFrameRead : Prop :=
  (∀ f : Frame, frameFits f → checkFrame (frameBytes f) = some f) ∧
  (∀ f : Frame, frameFits f →
    let bs := frameBytes f
    bodyLaidOut bs f.body ∧ (byteAt bs 1).getLsbD 7 = f.duplicate ∧ (byteAt bs 1).getLsbD 6 = f.overfull ∧
    (byteAt bs 1).extractLsb' 4 2 = 0 ∧ (byteAt bs 1).extractLsb' 0 4 = f.origin ∧ byteAt bs 2 = f.hop ∧
    fieldAt bs 3 4 = f.epoch.toNat ∧
    fieldAt bs (bs.length - 2) 2 = (crc16 (bs.take (bs.length - 2))).toNat) ∧
  (∀ (bs : List Byte) (i n : Nat), i + n < bs.length →
    fieldAt bs i (n + 1) = 256 ^ n * (byteAt bs i).toNat + fieldAt bs (i + 1) n) ∧
  crc16 [] = 0xFFFF ∧
  ∀ (bs : List Byte) (b : Byte), crc16 (bs ++ [b]) =
    [7, 6, 5, 4, 3, 2, 1, 0].foldl (fun r k => crcShiftIn r (b.getLsbD k)) (crc16 bs)

/-- R107, R183: a frame whose last two bytes are not the CRC of the rest is bad, whatever else it holds. -/
def Obligations.WrongCheckIsBad : Prop :=
  ∀ (content : List Byte) (check : Word16), check ≠ crc16 content →
    checkFrame (content ++ bigEndian 2 check.toNat) = none

/-- The events of a lane less those that only set far lock. -/
def beyondFarLock (c : Instr) : Bool :=
  match c with
  | .farLockSet _ _ _ => false
  | _ => true

/-- What the receiver of the forward lane takes from an item sent on it (R181). -/
def forwardCommand : Option ForwardItem → Option Instr
  | some (.frame bytes) => some (.frameArrival bytes)
  | some .rebase => some .rebase
  | _ => none

/-- What the receiver of the return lane takes from an item sent on it (R181). -/
def returnCommand : Option ReturnSymbol → Option Instr
  | some .token => some .token
  | some .advertise => some .advertise
  | none => none

/-- 11.1, R95, R181: every byte and every symbol is read back from its group, and no other group is one of the code; the
groups sent for a frame, received by a locked upstream receiver outside a frame, bring one frame arrival with the bytes in
order and beside it only the setting of far lock. A port in TRAINING sends TRAIN without a break, which gives
alignment and clears far lock; a port in CREDIT_WAIT or UP fills its lane with IDLE, and the items it sends
arrive in their order whatever the fill between them; a port in OFF sends nothing. A cut-off send, whose groups the data
book does not count, is left out. -/
def Obligations.LaneFrameArrives : Prop :=
  (∀ b, readGroup (dataGroup b) = .data b) ∧
  (∀ y, readGroup (controlGroup y) = .control y) ∧
  (∀ g, readGroup g = .invalid ∨ (∃ b, g = dataGroup b) ∨ ∃ y, g = controlGroup y) ∧
  (∀ g : LaneGroup, g.getLsbD 9 = g.getLsbD 0 → readGroup g = .invalid) ∧
  (∀ (bytes : List Byte) (rest : List LaneGroup),
    (commandsOfGroups .upstream none (forwardGroups (.frame bytes) ++ rest)).filter beyondFarLock =
      .frameArrival bytes :: (commandsOfGroups .upstream none rest).filter beyondFarLock) ∧
  (∀ items, forwardLane .training items = List.replicate items.length (controlGroup .train) ∧
    forwardLane .off items = []) ∧
  (∀ items, returnLane .training items = List.replicate items.length (controlGroup .train) ∧
    returnLane .off items = []) ∧
  (∀ n, forwardLane .up (List.replicate n none) = List.replicate n (controlGroup .idle) ∧
    returnLane .creditWait (List.replicate n none) = List.replicate n (controlGroup .idle)) ∧
  givesAlignment (List.replicate 8 (controlGroup .train)) = true ∧
  (∀ port n, commandsOfGroups port none (List.replicate n (controlGroup .train)) =
    List.replicate n (.farLockClear port)) ∧
  (∀ l items, l = .creditWait ∨ l = .up → (∀ bytes, some (.cutOff bytes) ∉ items) →
    (commandsOfGroups .upstream none (forwardLane l items)).filter beyondFarLock =
      items.filterMap forwardCommand) ∧
  (∀ l items, l = .creditWait ∨ l = .up →
    (commandsOfGroups .downstream none (returnLane l items)).filter beyondFarLock =
      items.filterMap returnCommand)

/-! ### The step and the resets -/

/-- A step takes the command at the front of the queue. -/
def Obligations.StepTakesFrontCommand : Prop :=
  ∀ (c : Instr) (rest : List Instr) (s : State), s.pending = c :: rest →
    Sys2Proof.Machine.step s = exec c { s with pending := rest }

/-- R162, R163, notes/assumptions/3.md (the model's choice): with no command waiting one REFCLK period passes, and the
25000th is a tick; while RESETN is held low the tick counter stays. -/
def Obligations.EmptyQueueCountsRefclk : Prop :=
  ∀ s : State, s.pending = [] →
    (s.resetn = true → s.ctl.tickCounter + 1 < 25000 →
      Sys2Proof.Machine.step s =
        .next { s with ctl := { s.ctl with tickCounter := s.ctl.tickCounter + 1 } }) ∧
    (s.resetn = true → 25000 ≤ s.ctl.tickCounter + 1 → Sys2Proof.Machine.step s = exec .tick s) ∧
    (s.resetn = false → Sys2Proof.Machine.step s = .next s)

/-- Every command answers a next state, and none touches the commands that wait behind it; the ill-formed commands
change nothing (notes/assumptions/2.md). -/
def Obligations.EveryCommandAnswers : Prop :=
  (∀ (c : Instr) (s : State), ∃ t, exec c s = .next t ∧ t.pending = s.pending) ∧
  (∀ (c : Instr) (s : State), c.wellFormed = false → exec c s = .next s)

/-- R163, R164, R172: RESETN pulled low holds every item at its reset value, with INTN high, BYPASSN low, the ports OFF and no
transaction, and until it rises no other command and no REFCLK period changes anything; its rise and a complete
STATION_RESET leave the reset value of every item of every block (R7, R12, R63, R78, R96, R112, R131, R147, R148, R162,
R168, R178) and the notice STARTED. That one RESETN command is the fall of the pin and the next its rise is the model's
choice (notes/assumptions/21.md), as is what either reset makes of the output records (notes/assumptions/12.md). -/
def Obligations.ResetValues : Prop :=
  (∀ s, s.resetn = true → exec .resetn s = .next { State.heldReset with pending := s.pending }) ∧
  (∀ s, s.resetn = false → exec .resetn s = .next { State.afterReset .pin with pending := s.pending }) ∧
  (State.heldReset.resetn = false ∧ State.heldReset.intn = true ∧ State.heldReset.ctl.bypassn = false ∧
    State.heldReset.up.link = .off ∧ State.heldReset.down.link = .off ∧ State.heldReset.host.spi = none ∧
    State.heldReset = { State.afterReset .pin with
      host := { (State.afterReset .pin).host with results := [] }, resetn := false }) ∧
  (∀ c waiting, c ≠ .resetn → exec c { State.heldReset with pending := waiting } =
    .next { State.heldReset with pending := waiting }) ∧
  (∀ s status b data, s.host.spi = some { status := status, code := some 0xA5, reply := [], headShown := false } →
    exec (.stationReset (.rise (b :: data))) s = .next { State.afterReset .host with
      pending := s.pending
      resetn := s.resetn
      host := { (State.afterReset .host).host with
        sdo := status :: List.replicate (data.length + 1) 0 } }) ∧
  Sys2Proof.Machine.step State.heldReset = .next State.heldReset ∧
  (∀ cause, let t := State.afterReset cause
    (t.host.results = [.started cause] ∧ t.intn = false ∧ t.host.commands = [] ∧ t.host.nextSeq = 0 ∧
      t.host.overrun = false ∧ t.host.index = { space := .station, slot := 0, group := 0 } ∧ t.host.spi = none) ∧
    (t.ctl.state = .unconfigured ∧ t.ctl.configured = false ∧
      t.ctl.config = { stationId := 0, term := 0, warning := 0, ballotLimit := 0, formationLimit := 0,
                       orphanHold := 0 } ∧
      t.ctl.bypassn = false ∧ t.ctl.leaveTimer = none ∧ t.ctl.haltCause = none ∧ t.ctl.leaveOutcome = none ∧
      t.ctl.stateMark = none ∧ t.ctl.faultMark = none ∧ t.ctl.tickCounter = 0) ∧
    (t.up.link = .off ∧ t.up.receiveLock = false ∧ t.up.farLock = false ∧ t.up.badRun = 0 ∧
      t.up.advertisementOwed = false ∧ t.down.link = .off ∧ t.down.receiveLock = false ∧
      t.down.farLock = false ∧ t.down.credit = 0) ∧
    (t.census.epoch = 0 ∧ t.census.roster = [] ∧ t.census.previousRoster = [] ∧ t.census.bestKey = none ∧
      t.census.censusDue = false ∧ t.census.rosterDue = none ∧ t.census.retryTimer = none ∧
      t.census.formationTimer = none) ∧
    (t.fh.transit = [] ∧ t.fh.origination = [] ∧ t.fh.inSend = none ∧ t.fh.outstanding = 0 ∧
      t.fh.arbiterPos = 0) ∧
    (t.shadow.incomplete = false ∧ t.shadow.fence = none ∧ t.shadow.fenceObjected = false ∧
      t.shadow.fenceEndDue = false) ∧
    t.scan = none ∧ t.clock = 0 ∧ (∀ i, t.record i = none) ∧ t.undamaged)

/-! ### The host port -/

/-- The command by which an event of a transaction reaches the port. -/
def spiRow : Transaction → SpiEvent → Instr
  | .stationReset => .stationReset
  | .writeCommand => .writeCommand
  | .readResult => .readResult
  | .readStatus => .readStatus
  | .writeIndex => .writeIndex
  | .readWindow => .readWindow

/-- R166: the status byte is fixed at the fall of CSN, changes nothing, and is the first byte of every transaction with a
whole code byte; its bits stand as 11.3 places them. It is the model's choice (notes/assumptions/2.md) that a code byte or
a rise of CSN with no transaction in progress, and a fall of CSN during one or while RESETN is low, change nothing, and
that a byte that is no transaction code may come on any of the six rows. -/
def Obligations.StatusByteShown : Prop :=
  (∀ k s, s.resetn = true → s.host.spi = none → exec (spiRow k .fall) s = .next { s with host := { s.host with
    spi := some { status := statusByte s, code := none, reply := [], headShown := false } } }) ∧
  (∀ k b s x, s.host.spi = some x → ∃ t y, exec (spiRow k (.code b)) s = .next t ∧ t.host.spi = some y ∧
    y.status = x.status ∧ t.host.overrun = s.host.overrun) ∧
  (∀ k b data s x, s.host.spi = some x → x.code = some b → b = transactionCode k ∨ transactionOf b = none →
    ∃ t, exec (spiRow k (.rise data)) s = .next t ∧ t.host.sdo.head? = some x.status ∧
      t.host.sdo.length = data.length + 1 ∧ t.host.spi = none) ∧
  (∀ s : State, (statusByte s).getLsbD 7 = !s.host.results.isEmpty ∧
    (statusByte s).getLsbD 7 = !s.intn ∧
    (statusByte s).getLsbD 6 = (s.host.commands.length == 8) ∧
    (statusByte s).getLsbD 5 = s.host.overrun ∧
    (statusByte s).getLsbD 4 = false ∧ (statusByte s).getLsbD 3 = false ∧
    (statusByte s).extractLsb' 0 3 = (match s.ctl.state with
      | .unconfigured => 0 | .forming => 1 | .active => 2 | .isolated => 3
      | .leaving => 4 | .detached => 5 | .halted => 6 : BitVec 3)) ∧
  (∀ k e s, s.host.spi = none → e ≠ .fall → exec (spiRow k e) s = .next s) ∧
  (∀ k s, s.resetn = false ∨ s.host.spi ≠ none → exec (spiRow k .fall) s = .next s)

/-- The state after a transaction that took no effect: SDO has carried the given bytes. -/
def transferEnded (s : State) (out : List Byte) : State :=
  { s with host := { s.host with spi := none, sdo := out } }

/-- R165, 11.3: a transaction with fewer bytes than its code needs changes nothing at the rise of CSN but what SDO has
carried; a code byte that is no transaction code has no reply and no effect, however many bytes follow; a code byte cut
short has neither. That a byte that is no transaction code, and the rise of CSN after it or after a code byte cut
short, may come on any of the six rows is the model's choice (notes/assumptions/2.md). -/
def Obligations.ShortTransactionIgnored : Prop :=
  (∀ k, (transactionCode k, bytesNeeded k) = match k with
    | .writeCommand => (0x10, 20) | .readResult => (0x20, 16) | .readStatus => (0x21, 4)
    | .writeIndex => (0x30, 3) | .readWindow => (0x31, 8) | .stationReset => (0xA5, 1)) ∧
  (∀ k data s x, s.host.spi = some x → x.code = some (transactionCode k) → data.length < bytesNeeded k →
    exec (spiRow k (.rise data)) s = .next (transferEnded s
      (x.status :: (x.reply ++ List.replicate data.length 0).take data.length))) ∧
  (∀ k b data s x, b ∉ ([0x10, 0x20, 0x21, 0x30, 0x31, 0xA5] : List Byte) → s.host.spi = some x →
    (x.code = none → exec (spiRow k (.code b)) s = .next { s with host := { s.host with
      spi := some { status := x.status, code := some b, reply := [], headShown := false } } }) ∧
    (x.code = some b → x.reply = [] → exec (spiRow k (.rise data)) s = .next (transferEnded s
      (x.status :: List.replicate data.length 0)))) ∧
  (∀ k data s x, s.host.spi = some x → x.code = none →
    exec (spiRow k (.rise data)) s = .next (transferEnded s []))

/-- R169: at the rise of CSN a complete WRITE_COMMAND is accepted at the tail with the next sequence number, or discarded
with the overrun flag when the queue then holds 8 entries. -/
def Obligations.WriteCommandAcceptsOrDiscards : Prop :=
  ∀ (s : State) (status : Byte) (data : List Byte), 20 ≤ data.length →
    s.host.spi = some { status := status, code := some 0x10, reply := [], headShown := false } →
    (s.host.commands.length < 8 → exec (.writeCommand (.rise data)) s = .next { s with host := { s.host with
      commands := s.host.commands ++ [{ bytes := data.take 20, seq := s.host.nextSeq }]
      nextSeq := s.host.nextSeq + 1
      spi := none
      sdo := status :: List.replicate data.length 0 } }) ∧
    (8 ≤ s.host.commands.length → exec (.writeCommand (.rise data)) s = .next { s with host := { s.host with
      overrun := true
      spi := none
      sdo := status :: List.replicate data.length 0 } })

/-- Completion codes 00h to 0Ch in their order (11.3). -/
def completionCodes : List CompletionCode :=
  [.ok, .notConfigured, .alreadyConfigured, .badConfig, .notActive, .badRange, .badMode, .quota, .tableFull, .badSlot,
    .wrongState, .conflict, .unknownCommand]

/-- Notice kind and cause codes (11.3). -/
def noticeCodes : Notice → Nat × Nat
  | .granted => (1, 0)
  | .waiting .localScan => (2, 1)
  | .waiting .remote => (2, 2)
  | .waiting .epoch => (2, 3)
  | .failed .conflict => (3, 1)
  | .failed .timeout => (3, 2)
  | .failed .ringFault => (3, 3)
  | .failed .leave => (3, 4)
  | .termLow => (4, 0)
  | .expired => (5, 0)
  | .revoked .isolation => (6, 1)
  | .revoked .leave => (6, 2)

/-- Record state codes 1 to 6, station state codes 0 to 6, halt cause codes 1 to 3 and leave outcome codes 0 to 3 in their
order (11.3). -/
def recordStates : List RecState := [.pending, .waiting, .granted, .retired, .live, .orphaned]
def stationStates : List StationState :=
  [.unconfigured, .forming, .active, .isolated, .leaving, .detached, .halted]
def haltCauses : List (Option HaltCause) := [none, some .duplicateId, some .epochExhausted, some .tableCheck]
def leaveOutcomes : List (Option LeaveOutcome) := [none, some .clean, some .timedOut, some .interrupted]

/-- The places of a result record's fields (11.3). -/
def resultLaidOut (bs : List Byte) : ResultRecord → Prop
  | .completion code command seq slot tag => byteAt bs 0 = 0x01 ∧
    completionCodes[(byteAt bs 1).toNat]? = some code ∧ byteAt bs 2 = command ∧ byteAt bs 3 = seq ∧
    byteAt bs 4 = slot ∧ fieldAt bs 5 2 = tag.toNat ∧ fieldAt bs 7 9 = 0
  | .recordNotice n replaced slot tag st term => byteAt bs 0 = 0x02 ∧
    ((byteAt bs 1).toNat, (byteAt bs 2).toNat) = noticeCodes n ∧ byteAt bs 3 = (if replaced then 1 else 0) ∧
    (byteAt bs 4).toNat = slot.val ∧ fieldAt bs 5 2 = tag.toNat ∧
    1 ≤ (byteAt bs 7).toNat ∧ recordStates[(byteAt bs 7).toNat - 1]? = some st ∧ fieldAt bs 8 2 = term.toNat ∧
    fieldAt bs 10 6 = 0
  | .started cause => byteAt bs 0 = 0x03 ∧ byteAt bs 1 = 1 ∧ byteAt bs 2 = (if cause = .pin then 1 else 2) ∧
    fieldAt bs 3 13 = 0
  | .state n replaced => byteAt bs 0 = 0x03 ∧ byteAt bs 1 = 2 ∧
    stationStates[(byteAt bs 2).toNat]? = some n.state ∧ byteAt bs 3 = (if replaced then 1 else 0) ∧
    fieldAt bs 4 4 = n.epoch.toNat ∧ (byteAt bs 8).toNat = n.members % 256 ∧
    (byteAt bs 9).toNat = n.orphans % 256 ∧ byteAt bs 10 = (if n.fence then 1 else 0) ∧
    leaveOutcomes[(byteAt bs 11).toNat]? = some n.outcome ∧ fieldAt bs 12 4 = 0
  | .fault cause replaced => byteAt bs 0 = 0x03 ∧ byteAt bs 1 = 3 ∧
    (byteAt bs 2).toNat = (match cause with
      | .halt .duplicateId => 1
      | .halt .epochExhausted => 2
      | .halt .tableCheck => 3
      | .ringOverfull => 4) ∧
    byteAt bs 3 = (if replaced then 1 else 0) ∧ fieldAt bs 4 12 = 0

/-- R167, R175, 11.3: a READ_RESULT fixes the head record, or EMPTY, at the end of its code byte, and when complete removes the
record it has shown; a READ_STATUS fixes the status byte as it then stands, the counts and the state code, and when
complete clears the overrun flag; every result record is 16 bytes, its fields at the places of the table. -/
def Obligations.ReadResultAndStatus : Prop :=
  (∀ s x, s.host.spi = some x → x.code = none →
    exec (.readResult (.code 0x20)) s = .next { s with host := { s.host with
      spi := some { x with
        code := some 0x20
        reply := (match s.host.results with
          | [] => List.replicate 16 0
          | r :: _ => resultBytes r)
        headShown := !s.host.results.isEmpty } } }) ∧
  (∀ s x data, s.host.spi = some x → x.code = some 0x20 → x.reply.length = 16 → 16 ≤ data.length →
    exec (.readResult (.rise data)) s = .next { s with host := { s.host with
      results := if x.headShown = true then s.host.results.tail else s.host.results
      spi := none
      sdo := x.status :: (x.reply ++ List.replicate (data.length - 16) 0) } }) ∧
  (∀ s x, s.host.spi = some x → x.code = none →
    exec (.readStatus (.code 0x21)) s = .next { s with host := { s.host with
      spi := some { x with
        code := some 0x21
        reply := [statusByte s, BitVec.ofNat 8 s.host.commands.length, BitVec.ofNat 8 s.host.results.length,
          stateCode s.ctl.state]
        headShown := false } } }) ∧
  (∀ s x data, s.host.spi = some x → x.code = some 0x21 → x.reply.length = 4 → 4 ≤ data.length →
    exec (.readStatus (.rise data)) s = .next { s with host := { s.host with
      overrun := false
      spi := none
      sdo := x.status :: (x.reply ++ List.replicate (data.length - 4) 0) } }) ∧
  (∀ r, (resultBytes r).length = 16 ∧ resultLaidOut (resultBytes r) r)

/-- R178, R185: a complete WRITE_INDEX sets the index when space, slot and group are valid and leaves it
otherwise. -/
def Obligations.WriteIndexTested : Prop :=
  ∀ (s : State) (status x y z : Byte) (more : List Byte),
    s.host.spi = some { status := status, code := some 0x30, reply := [], headShown := false } →
    (∀ (space : WindowSpace) (slot : SlotNo),
      x = (match space with
        | .station => 0x01
        | .link => 0x02
        | .record => 0x03) → y.toNat = slot.val →
      z.toNat ≤ (match space with
        | .station => 6
        | .link => 1
        | .record => 4) →
      exec (.writeIndex (.rise (x :: y :: z :: more))) s = .next { s with host := { s.host with
        index := { space := space, slot := slot, group := z.toNat }
        spi := none
        sdo := status :: List.replicate (more.length + 3) 0 } }) ∧
    (x = 0 ∨ 3 < x.toNat ∨ 63 < y.toNat ∨ (x = 0x01 ∧ 6 < z.toNat) ∨ (x = 0x02 ∧ 1 < z.toNat) ∨
        (x = 0x03 ∧ 4 < z.toNat) →
      exec (.writeIndex (.rise (x :: y :: z :: more))) s = .next (transferEnded s
        (status :: List.replicate (more.length + 3) 0)))

/-- The group that a window index would show. -/
def groupShown (s : State) (space : WindowSpace) (slot : SlotNo) (group : Nat) : List Byte :=
  windowGroup { s with host := { s.host with index := { space := space, slot := slot, group := group } } }

/-- The ticks that a timer reads: 0 while stopped or absent (R186). -/
def ticksShown (timer : Option Word16) : Nat := (timer.map BitVec.toNat).getD 0

/-- Two IDs per byte, the first in the high half; places beyond the list 0 (R186). -/
def rosterLaidOut (bs : List Byte) (ids : List StationId) : Prop :=
  ∀ k, k < 8 → (byteAt bs k).extractLsb' 4 4 = ids.getD (2 * k) 0 ∧
    (byteAt bs k).extractLsb' 0 4 = ids.getD (2 * k + 1) 0

/-- The STATION space (R186). -/
def stationLaidOut (s : State) (g : Nat → List Byte) : Prop :=
  (stationStates[(byteAt (g 0) 0).toNat]? = some s.ctl.state ∧
    (byteAt (g 0) 1).getLsbD 0 = s.ctl.configured ∧ (byteAt (g 0) 1).getLsbD 1 = s.census.bestKey.isSome ∧
    (byteAt (g 0) 1).getLsbD 2 = s.census.censusDue ∧ (byteAt (g 0) 1).getLsbD 3 = s.census.rosterDue.isSome ∧
    (byteAt (g 0) 1).getLsbD 4 = s.shadow.incomplete ∧ (byteAt (g 0) 1).getLsbD 5 = s.shadow.fence.isSome ∧
    (byteAt (g 0) 1).getLsbD 6 = s.shadow.fenceObjected ∧ (byteAt (g 0) 1).getLsbD 7 = s.shadow.fenceEndDue ∧
    (byteAt (g 0) 2).toNat = s.ctl.config.stationId.toNat ∧
    haltCauses[(byteAt (g 0) 3).toNat]? = some s.ctl.haltCause ∧
    leaveOutcomes[(byteAt (g 0) 4).toNat]? = some s.ctl.leaveOutcome ∧
    (byteAt (g 0) 5).getLsbD 0 = s.ctl.stateMark.isSome ∧
    (byteAt (g 0) 5).getLsbD 1 = s.ctl.stateMark.any (·.replaced) ∧
    (byteAt (g 0) 5).getLsbD 2 = s.ctl.faultMark.isSome ∧
    (byteAt (g 0) 5).getLsbD 3 = s.ctl.faultMark.any (·.replaced) ∧ (byteAt (g 0) 5).extractLsb' 4 4 = 0 ∧
    (byteAt (g 0) 6).toNat = s.census.roster.length % 256 ∧
    (byteAt (g 0) 7).toNat = s.census.previousRoster.length % 256) ∧
  (fieldAt (g 1) 0 4 = s.census.epoch.toNat ∧ fieldAt (g 1) 4 4 = s.clock.toNat) ∧
  (fieldAt (g 2) 0 2 = s.ctl.config.term.toNat ∧ fieldAt (g 2) 2 2 = s.ctl.config.warning.toNat ∧
    byteAt (g 2) 4 = s.ctl.config.ballotLimit ∧ fieldAt (g 2) 5 2 = s.ctl.config.formationLimit.toNat ∧
    (byteAt (g 2) 7).toNat = (s.census.bestKey.map fun k => k.origin.toNat).getD 0) ∧
  (fieldAt (g 3) 0 2 = s.ctl.config.orphanHold.toNat ∧ fieldAt (g 3) 2 2 = s.fh.outstanding.toNat ∧
    fieldAt (g 3) 4 4 = (s.census.bestKey.map fun k => k.epoch.toNat).getD 0) ∧
  (fieldAt (g 4) 0 2 = ticksShown s.census.retryTimer ∧ fieldAt (g 4) 2 2 = ticksShown s.census.formationTimer ∧
    fieldAt (g 4) 4 2 = ticksShown s.shadow.fence ∧ fieldAt (g 4) 6 2 = ticksShown s.ctl.leaveTimer) ∧
  rosterLaidOut (g 5) s.census.roster ∧ rosterLaidOut (g 6) s.census.previousRoster

/-- Link state codes 0 to 3 in their order (R186). -/
def linkStates : List LinkState := [.off, .training, .creditWait, .up]

/-- The LINK space (R186). -/
def linkLaidOut (s : State) (g : Nat → List Byte) : Prop :=
  (linkStates[(byteAt (g 0) 0).toNat]? = some s.up.link ∧ (byteAt (g 0) 1).getLsbD 0 = s.up.receiveLock ∧
    (byteAt (g 0) 1).getLsbD 1 = s.up.farLock ∧ (byteAt (g 0) 1).getLsbD 2 = s.up.advertisementOwed ∧
    (byteAt (g 0) 1).extractLsb' 3 5 = 0 ∧ (byteAt (g 0) 2).toNat = s.up.badRun % 256 ∧
    linkStates[(byteAt (g 0) 3).toNat]? = some s.down.link ∧ (byteAt (g 0) 4).getLsbD 0 = s.down.receiveLock ∧
    (byteAt (g 0) 4).getLsbD 1 = s.down.farLock ∧ (byteAt (g 0) 4).extractLsb' 2 6 = 0 ∧
    (byteAt (g 0) 5).toNat = s.down.credit % 256 ∧ fieldAt (g 0) 6 2 = 0) ∧
  ((byteAt (g 1) 0).toNat = s.fh.transit.length % 256 ∧ (byteAt (g 1) 1).toNat = s.fh.origination.length % 256 ∧
    (byteAt (g 1) 2).toNat = s.fh.arbiterPos % 256 ∧
    ([none, some .transit, some .origination] : List (Option SendSource))[(byteAt (g 1) 3).toNat]? =
      some (s.fh.inSend.map (·.source)) ∧ fieldAt (g 1) 4 4 = 0)

/-- Outcome codes 0 to 10 and due codes in their order (11.2, R186). -/
def outcomeCodes : List (Option RecOutcome) :=
  [none, some .released, some .expired, some .cancelled, some (.failed .conflict), some (.failed .timeout),
    some (.failed .ringFault), some (.failed .leave), some (.revoked .isolation), some (.revoked .leave), some .lapsed]
def dueCodes : Option Due → Nat × Nat
  | none => (0, 0)
  | some .ballot => (1, 0)
  | some (.announce .grant) => (2, 1)
  | some (.announce .renew) => (2, 2)
  | some (.announce .reannounce) => (2, 3)
  | some (.release .released) => (3, 1)
  | some (.release .expired) => (3, 2)
  | some (.release .withdrawn) => (3, 3)
  | some (.release .orphanLapsed) => (3, 4)
  | some (.release .fenceEnd) => (3, 5)

/-- The RECORD space for a record in use (R186). -/
def recordLaidOut (r : Record) (g : Nat → List Byte) : Prop :=
  ((byteAt (g 0) 0).extractLsb' 4 4 = (if r.kind = .own then 1 else 2 : BitVec 4) ∧
    1 ≤ ((byteAt (g 0) 0).extractLsb' 0 4).toNat ∧
    recordStates[((byteAt (g 0) 0).extractLsb' 0 4).toNat - 1]? = some r.state ∧
    byteAt (g 0) 1 = (if r.mode = .shared then 1 else 2) ∧ fieldAt (g 0) 2 2 = r.tag.toNat ∧
    ((byteAt (g 0) 4).toNat, ((byteAt (g 0) 5).extractLsb' 0 4).toNat) =
      ((r.notice.map fun m => noticeCodes m.notice).getD (0, 0)) ∧
    (byteAt (g 0) 5).getLsbD 6 = r.waitingReported ∧ (byteAt (g 0) 5).getLsbD 7 = r.notice.any (·.replaced) ∧
    (byteAt (g 0) 6).toNat = r.identity.id.toNat ∧ (byteAt (g 0) 7).getLsbD 0 = r.objected ∧
    (byteAt (g 0) 7).getLsbD 1 = r.noWait ∧ (byteAt (g 0) 7).getLsbD 2 = r.releaseSeen) ∧
  (fieldAt (g 1) 0 5 = r.range.first.toNat ∧
    ((byteAt (g 1) 5).toNat, (byteAt (g 1) 6).toNat) = dueCodes r.due ∧
    outcomeCodes[(byteAt (g 1) 7).toNat]? = some r.outcome) ∧
  (fieldAt (g 2) 0 4 = r.identity.epoch.toNat ∧ fieldAt (g 2) 4 4 = r.identity.count.toNat) ∧
  (fieldAt (g 3) 0 5 = r.range.last.toNat ∧ byteAt (g 3) 5 = r.issue ∧
    (r.lossCount ≤ 3 → ((byteAt (g 3) 6).extractLsb' 0 2).toNat = r.lossCount ∧
      ([none, some .localScan, some .remote, some .epoch] : List (Option WaitCause))[
        ((byteAt (g 3) 6).extractLsb' 4 2).toNat]? = some r.waitCause) ∧
    (byteAt (g 3) 7).getLsbD 0 = r.mainTimer.isSome ∧ (byteAt (g 3) 7).getLsbD 1 = r.waitLimit.isSome) ∧
  (fieldAt (g 4) 0 2 = ticksShown r.mainTimer ∧ fieldAt (g 4) 2 2 = ticksShown r.waitLimit ∧
    fieldAt (g 4) 4 2 = r.announcedTerm.toNat ∧ fieldAt (g 4) 6 2 = 0)

/-- R30, R179, R186: a READ_WINDOW fixes the selected group at the end of its code byte and when complete advances the index; it
changes nothing else. Every group is 8 bytes, its fields at the places of the tables, and a FREE slot reads 0 in every
byte. -/
def Obligations.ReadWindowShowsAndAdvances : Prop :=
  (∀ s x, s.host.spi = some x → x.code = none →
    (s.host.index.space = .record → (s.table.get s.host.index.slot).damaged = false) →
    exec (.readWindow (.code 0x31)) s = .next { s with host := { s.host with
      spi := some { x with code := some 0x31, reply := windowGroup s, headShown := false } } }) ∧
  (∀ s x data, s.host.spi = some x → x.code = some 0x31 → x.reply.length = 8 → 8 ≤ data.length →
    ∃ index, exec (.readWindow (.rise data)) s = .next { s with host := { s.host with
        index := index
        spi := none
        sdo := x.status :: (x.reply ++ List.replicate (data.length - 8) 0) } } ∧
      index.space = s.host.index.space ∧
      (s.host.index.group < lastGroup s.host.index.space →
        index.group = s.host.index.group + 1 ∧ index.slot = s.host.index.slot) ∧
      (lastGroup s.host.index.space ≤ s.host.index.group → index.group = 0 ∧
        (s.host.index.space ≠ .record → index.slot = s.host.index.slot) ∧
        (s.host.index.space = .record → index.slot.val = (s.host.index.slot.val + 1) % 64))) ∧
  (∀ s : State, (windowGroup s).length = 8) ∧
  (∀ s slot, stationLaidOut s (groupShown s .station slot) ∧ linkLaidOut s (groupShown s .link slot)) ∧
  (∀ s slot r, s.record slot = some r → recordLaidOut r (groupShown s .record slot)) ∧
  (∀ s slot group, s.record slot = none → groupShown s .record slot group = List.replicate 8 0)

/-- R28, R29, R160, R179: a RECORD read that meets a check error returns the bytes as stored, and halts the station with
TABLE_CHECK at the end of its code byte; in HALTED it frees the slot and nothing else. That a transaction then
cut short has read the slot all the same is the model's reading (notes/assumptions/6.md). -/
def Obligations.WindowReadChecksSlot : Prop :=
  ∀ s x, s.host.spi = some x → x.code = none → s.host.index.space = .record →
    (s.table.get s.host.index.slot).damaged = true →
    let shown := some { x with code := some 0x31, reply := windowGroup s, headShown := false }
    ∃ t, exec (.readWindow (.code 0x31)) s = .next t ∧
      (s.ctl.state ≠ .halted → Halts .tableCheck s t ∧
        t.host = { s.host with spi := shown, commands := [] }) ∧
      (s.ctl.state = .halted →
        t = { freeSlot s.host.index.slot s with host := { s.host with spi := shown } })

/-- R151, R163, R165, R168, R172, R178: which commands can change the RESETN level, the transaction in progress, the window
index, the overrun flag, the next sequence number, the configuration and the head of the result queue. -/
def Obligations.HostPortFrame : Prop :=
  ∀ (c : Instr) (s t : State), exec c s = .next t → c ≠ .resetn → t.resetn = s.resetn ∧
    ((∀ data, c ≠ .stationReset (.rise data)) →
    ((∀ k e, c ≠ spiRow k e) → t.host.spi = s.host.spi ∧ t.host.sdo = s.host.sdo) ∧
    ((∀ data, c ≠ .writeIndex (.rise data)) → (∀ data, c ≠ .readWindow (.rise data)) →
      t.host.index = s.host.index) ∧
    ((∀ data, c ≠ .writeCommand (.rise data)) → (∀ data, c ≠ .readStatus (.rise data)) →
      t.host.overrun = s.host.overrun) ∧
    ((∀ data, c ≠ .writeCommand (.rise data)) → t.host.nextSeq = s.host.nextSeq) ∧
    (c ≠ .configure → t.ctl.config = s.ctl.config ∧ t.ctl.configured = s.ctl.configured) ∧
    ((∀ data, c ≠ .readResult (.rise data)) →
      ∃ more, t.host.results = s.host.results ++ more ∧ more.length ≤ 1))

/-! ### Commands of the host -/

/-- The event of a command meets a check error before it has changed anything: the station halts with TABLE_CHECK (R28,
R160). -/
def meetsCheckError (c : Instr) (s : State) : Prop :=
  ∃ t, exec c s = .next t ∧ Halts .tableCheck s t ∧ t.host = { s.host with commands := [] }

/-- The rows by which the command handler takes an entry, and the code each takes (11.3, R170). -/
def commandRow : Instr → Option (Option HostCommand)
  | .configure => some (some .configure)
  | .claim => some (some .claim)
  | .cancel => some (some .cancel)
  | .release => some (some .release)
  | .renew => some (some .renew)
  | .resync => some (some .resync)
  | .leave => some (some .leave)
  | .unknownCommand => some none
  | _ => none

/-- R170, R172: a command taken removes the oldest entry and places exactly one completion, with its code byte and sequence
number, at the tail of the result queue, whatever it does beside; when the arbiter does not grant, or the oldest
entry is another command, nothing changes (notes/assumptions/2.md). That no command is taken while a notice mark is held,
where R53 and R176 speak of a CANCEL that is, is the model's choice (notes/assumptions/28.md). -/
def Obligations.OneCompletionPerCommand : Prop :=
  (∀ c which s e rest, commandRow c = some which → Granted s e rest →
    hostCommand (byteAt e.bytes 0) = which →
    ∃ t code slot tag, exec c s = .next t ∧
      t.host.results = s.host.results ++ [.completion code (byteAt e.bytes 0) e.seq slot tag] ∧
      (t.host.commands = rest ∨ (t.host.commands = [] ∧ t.ctl.state = .halted))) ∧
  (∀ c which s, commandRow c = some which →
    (∀ e rest, Granted s e rest → hostCommand (byteAt e.bytes 0) ≠ which) → exec c s = .next s)

/-- R170, R171, R154: a record of no command code completes with UNKNOWN_COMMAND in every state; while the configured flag is
clear every other command but CONFIGURE completes with NOT_CONFIGURED; neither has another effect. -/
def Obligations.UnknownAndUnconfigured : Prop :=
  (∀ s e rest, Granted s e rest →
    byteAt e.bytes 0 ∉ ([0x01, 0x40, 0x41, 0x42, 0x43, 0x50, 0x51] : List Byte) →
    exec .unknownCommand s = .next (completed s e rest .unknownCommand 255 0)) ∧
  (∀ s e rest, Granted s e rest → s.ctl.configured = false →
    (byteAt e.bytes 0 = 0x40 → exec .claim s =
      .next (completed s e rest .notConfigured 255 (BitVec.ofNat 16 (fieldAt e.bytes 2 2)))) ∧
    (byteAt e.bytes 0 = 0x41 → exec .cancel s =
      .next (completed s e rest .notConfigured (byteAt e.bytes 1) 0)) ∧
    (byteAt e.bytes 0 = 0x42 → exec .release s =
      .next (completed s e rest .notConfigured (byteAt e.bytes 1) 0)) ∧
    (byteAt e.bytes 0 = 0x43 → exec .renew s =
      .next (completed s e rest .notConfigured (byteAt e.bytes 1) 0)) ∧
    (byteAt e.bytes 0 = 0x50 → exec .resync s = .next (completed s e rest .notConfigured 255 0)) ∧
    (byteAt e.bytes 0 = 0x51 → exec .leave s = .next (completed s e rest .notConfigured 255 0)))

/-- R151 to R153, R185: what CONFIGURE accepts, and how it is refused, without another effect; accepted, it stores the
values, raises BYPASSN, trains both ports, enters FORMING, starts the formation timer, proposes epoch 1 and sets the
STATE notice. -/
def Obligations.ConfigureDecides : Prop :=
  (∀ bs c, configureFields bs = some c ↔
    (byteAt bs 1).toNat = c.stationId.toNat ∧ c.term.toNat = fieldAt bs 2 2 ∧
    c.warning.toNat = fieldAt bs 4 2 ∧ c.ballotLimit = byteAt bs 6 ∧
    c.formationLimit.toNat = fieldAt bs 7 2 ∧ c.orphanHold.toNat = fieldAt bs 9 2 ∧
    100 ≤ c.term.toNat ∧ c.term.toNat ≤ 60000 ∧ c.warning.toNat < c.term.toNat ∧
    2 ≤ c.ballotLimit.toNat ∧ 20 ≤ c.formationLimit.toNat ∧ c.formationLimit.toNat ≤ 5000 ∧
    c.formationLimit.toNat < c.orphanHold.toNat) ∧
  ∀ s e rest, Granted s e rest → byteAt e.bytes 0 = 0x01 →
    (s.ctl.configured = true → exec .configure s =
      .next (completed s e rest .alreadyConfigured 255 0)) ∧
    (s.ctl.configured = false → s.ctl.state ≠ .unconfigured → exec .configure s =
      .next (completed s e rest .notActive 255 0)) ∧
    (s.ctl.configured = false → s.ctl.state = .unconfigured → configureFields e.bytes = none →
      exec .configure s = .next (completed s e rest .badConfig 255 0)) ∧
    (∀ c, s.ctl.configured = false → s.ctl.state = .unconfigured → configureFields e.bytes = some c →
      exec .configure s = .next { completed s e rest .ok 255 0 with
        up := { s.up with link := .training }
        down := { s.down with link := .training }
        census := { s.census with
          bestKey := some { epoch := 1, origin := c.stationId }, censusDue := true, rosterDue := none,
          retryTimer := none, formationTimer := some c.formationLimit }
        ctl := { s.ctl with
          state := .forming, configured := true, config := c, bypassn := true,
          stateMark := some {
            notice := { state := .forming, epoch := 0, members := 0, orphans := 0, fence := false,
                        outcome := none }
            replaced := false } } })

/-- R1, R3, R18, R34: the tests of a CLAIM in their order; a refused CLAIM changes nothing but the two queues. -/
def Obligations.ClaimTests : Prop :=
  ∀ s e rest, Granted s e rest → byteAt e.bytes 0 = 0x40 → s.ctl.configured = true →
    let tag : Word16 := BitVec.ofNat 16 (fieldAt e.bytes 2 2)
    let inverted := fieldAt e.bytes 10 5 < fieldAt e.bytes 5 5
    let modeKnown := byteAt e.bytes 4 = 0x01 ∨ byteAt e.bytes 4 = 0x02
    let refusedWith (code : CompletionCode) := exec .claim s = .next (completed s e rest code 255 tag)
    (s.ctl.state ≠ .active → refusedWith .notActive) ∧
    (s.ctl.state = .active → inverted → refusedWith .badRange) ∧
    (s.ctl.state = .active → ¬ inverted → ¬ modeKnown → refusedWith .badMode) ∧
    (s.ctl.state = .active → ¬ inverted → modeKnown → 24 ≤ ownCount s → refusedWith .quota) ∧
    (s.ctl.state = .active → ¬ inverted → modeKnown → ownCount s < 24 →
      (∀ i, s.record i ≠ none) → refusedWith .tableFull)

/-- The mode byte of a CLAIM (R3, 11.3). -/
def modeCode : Mode → Byte
  | .shared => 0x01
  | .exclusive => 0x02

/-- The own record a CLAIM forms (R8, R17, R36, 11.3), as PENDING with its BALLOT due; every other field starts empty. -/
def claimed (s : State) (bs : List Byte) (mode : Mode) (count : Word32) : Record where
  kind := .own
  state := .pending
  range := { first := BitVec.ofNat 40 (fieldAt bs 5 5), last := BitVec.ofNat 40 (fieldAt bs 10 5) }
  mode := mode
  identity := { epoch := s.census.epoch, count := count, id := s.stationId }
  objected := false
  due := some .ballot
  mainTimer := none
  tag := BitVec.ofNat 16 (fieldAt bs 2 2)
  noWait := (byteAt bs 1).getLsbD 0
  waitLimit :=
    let limit : Word16 := BitVec.ofNat 16 (fieldAt bs 15 2)
    if limit = 0 then none else some limit
  issue := 0
  lossCount := 0
  releaseSeen := false
  waitCause := none
  notice := none
  outcome := none
  waitingReported := false
  announcedTerm := 0

/-- A record of the table blocks a claim in the local scan (R35). -/
def blocks (s : State) (own : SlotNo) (stamp : Stamp) (range : Range) (mode : Mode) : Prop :=
  ∃ j r, j ≠ own ∧ s.record j = some r ∧ conflicts r.range r.mode range mode = true ∧
    ((r.kind = .own ∧ r.state = .granted) ∨
      (r.kind = .own ∧ (r.state = .pending ∨ r.state = .waiting) ∧ precedes r.identity stamp = true) ∨
      (r.kind = .shadow ∧ r.state = .orphaned))

/-- R8, R17, R19, R35, R36: a CLAIM that passes its tests, its count not above the limit of R11, is stamped one above the
clock and enters the lowest FREE slot PENDING with BALLOT due, or WAITING(LOCAL) with its notice when the fence or
the local scan blocks it; with NO_WAIT a blocked claim is not entered. The record is OWN, with the stamp, the range, mode,
tag and NO_WAIT of the command, a wait limit unless the command gives 0, issue and loss count 0, and objected and
release-seen clear. Every other slot stays as it was. A local scan
that meets a check error ends the CLAIM with NOT_ACTIVE, and the station halts, the stamped clock standing (R28). -/
def Obligations.ClaimEntered : Prop :=
  (∀ s e rest mode i, Granted s e rest → byteAt e.bytes 0 = 0x40 → s.ctl.configured = true →
    s.ctl.state = .active → s.undamaged → fieldAt e.bytes 5 5 ≤ fieldAt e.bytes 10 5 →
    byteAt e.bytes 4 = modeCode mode → ownCount s < 24 →
    s.record i = none → (∀ j, j < i → s.record j ≠ none) → s.clock < 0xFFFFFF00 →
    let r := claimed s e.bytes mode (s.clock + 1)
    let blocked := s.fenceActive = true ∨ blocks s i r.identity r.range mode
    let stamped := fun (code : CompletionCode) (slot : Byte) =>
      { completed s e rest code slot r.tag with clock := s.clock + 1 }
    (¬ blocked → exec .claim s = .next (writeRecord i r (stamped .ok (BitVec.ofNat 8 i.val)))) ∧
    (blocked → r.noWait = false → exec .claim s = .next (writeRecord i
      { r with
        state := .waiting, waitCause := some .localScan, due := none, waitingReported := true,
        notice := some { notice := .waiting .localScan, replaced := false } }
      (stamped .ok (BitVec.ofNat 8 i.val)))) ∧
    (blocked → r.noWait = true → exec .claim s = .next (stamped .conflict 255))) ∧
  (∀ s e rest mode i j, Granted s e rest → byteAt e.bytes 0 = 0x40 → s.ctl.configured = true →
    s.ctl.state = .active → fieldAt e.bytes 5 5 ≤ fieldAt e.bytes 10 5 → byteAt e.bytes 4 = modeCode mode →
    ownCount s < 24 → s.record i = none → (∀ k, k < i → s.record k ≠ none) → s.clock < 0xFFFFFF00 →
    s.fenceActive = false → s.record j ≠ none → (s.table.get j).damaged = true →
    ∃ t, exec .claim s = .next t ∧ Halts .tableCheck { s with clock := s.clock + 1 } t ∧
      t.host = { (completed s e rest .notActive 255 (BitVec.ofNat 16 (fieldAt e.bytes 2 2))).host with
        commands := [] })

/-- R8, R11, R133, R149, R160: a CLAIM whose count lies above 2^32 − 256 completes as it would otherwise, PENDING, WAITING(LOCAL) or
not entered, and then moves the station to FORMING as RESYNC does; at the last epoch the station halts with
EPOCH_EXHAUSTED behind the completion. A clock at 2^32 − 1 stays there. -/
def Obligations.ClaimExhaustsClock : Prop :=
  ∀ s e rest mode i, Granted s e rest → byteAt e.bytes 0 = 0x40 → s.ctl.configured = true →
    s.ctl.state = .active → s.undamaged → fieldAt e.bytes 5 5 ≤ fieldAt e.bytes 10 5 →
    byteAt e.bytes 4 = modeCode mode → ownCount s < 24 →
    s.record i = none → (∀ j, j < i → s.record j ≠ none) → 0xFFFFFF00 ≤ s.clock →
    let count : Word32 := if s.clock = 0xFFFFFFFF then 0xFFFFFFFF else s.clock + 1
    let stamped : State := { s with clock := count }
    let r := claimed s e.bytes mode count
    let waiting : Record := { r with
      state := .waiting, waitCause := some .localScan, due := none, waitingReported := true,
      notice := some { notice := .waiting .localScan, replaced := false } }
    let blocked := s.fenceActive = true ∨ blocks s i r.identity r.range mode
    let entered := completed s e rest .ok (BitVec.ofNat 8 i.val) r.tag
    let refused := completed s e rest .conflict 255 r.tag
    (s.census.epoch ≠ 0xFFFFFFFF →
      (¬ blocked → ∃ t, exec .claim s = .next t ∧ t.host = entered.host ∧
        Forms (writeRecord i r stamped) t ∧ t.record i = some (enterWaiting .epoch r) ∧ t.clock = count) ∧
      (blocked → r.noWait = false → ∃ t, exec .claim s = .next t ∧ t.host = entered.host ∧
        Forms (writeRecord i waiting stamped) t ∧ t.record i = some waiting ∧ t.clock = count) ∧
      (blocked → r.noWait = true → ∃ t, exec .claim s = .next t ∧ t.host = refused.host ∧
        Forms stamped t ∧ t.record i = none ∧ t.clock = count)) ∧
    (s.census.epoch = 0xFFFFFFFF →
      ∃ t, exec .claim s = .next t ∧ t.ctl.state = .halted ∧ t.ctl.haltCause = some .epochExhausted ∧
        t.census.epoch = 0xFFFFFFFF ∧ t.clock = count ∧ t.record i = none ∧
        (¬ blocked ∨ r.noWait = false → t.host = { entered.host with commands := [] }) ∧
        (blocked → r.noWait = true → t.host = { refused.host with commands := [] }))

/-- R20, R28, R51, R53, R54, R171: a command that names a slot is refused with BAD_SLOT for a FREE slot, a shadow or a number above
63, and with WRONG_STATE for an own record it does not accept; outside ACTIVE a RENEW is refused with NOT_ACTIVE, whatever
the slot; a refusal changes nothing but the two queues. A check error at the named slot ends the command with
NOT_ACTIVE and halts the station, or in HALTED frees the slot. The tag of a RENEW outside ACTIVE, the read of its slot, and
the tag 0 after a check error are the model's choices (notes/assumptions/6.md). -/
def Obligations.NamedSlotRefused : Prop :=
  ∀ s e rest, Granted s e rest → s.ctl.configured = true →
    let b := byteAt e.bytes 1
    let none' := ∀ i : SlotNo, i.val = b.toNat → (s.table.get i).damaged = false ∧
      ∀ r, s.record i = some r → r.kind = .shadow
    (none' → byteAt e.bytes 0 = 0x41 → exec .cancel s = .next (completed s e rest .badSlot b 0)) ∧
    (none' → byteAt e.bytes 0 = 0x42 → exec .release s = .next (completed s e rest .badSlot b 0)) ∧
    (none' → byteAt e.bytes 0 = 0x43 → s.ctl.state = .active →
      exec .renew s = .next (completed s e rest .badSlot b 0)) ∧
    (none' → byteAt e.bytes 0 = 0x43 → s.ctl.state ≠ .active →
      exec .renew s = .next (completed s e rest .notActive b 0)) ∧
    (∀ (i : SlotNo) r, i.val = b.toNat → (s.table.get i).damaged = false → s.record i = some r → r.kind = .own →
      (byteAt e.bytes 0 = 0x41 → r.state ≠ .pending → r.state ≠ .waiting →
        exec .cancel s = .next (completed s e rest .wrongState b r.tag)) ∧
      (byteAt e.bytes 0 = 0x42 → r.state ≠ .granted →
        exec .release s = .next (completed s e rest .wrongState b r.tag)) ∧
      (byteAt e.bytes 0 = 0x43 → s.ctl.state = .active → r.state ≠ .granted →
        exec .renew s = .next (completed s e rest .wrongState b r.tag)) ∧
      (byteAt e.bytes 0 = 0x43 → s.ctl.state ≠ .active →
        exec .renew s = .next (completed s e rest .notActive b r.tag))) ∧
    (∀ (i : SlotNo) (c : Instr) (code : Byte), i.val = b.toNat → (s.table.get i).damaged = true →
      (c = .cancel ∧ code = 0x41) ∨ (c = .release ∧ code = 0x42) ∨ (c = .renew ∧ code = 0x43) →
      byteAt e.bytes 0 = code →
      (s.ctl.state ≠ .halted → ∃ t, exec c s = .next t ∧ Halts .tableCheck s t ∧
        t.host = { (completed s e rest .notActive b 0).host with commands := [] }) ∧
      (s.ctl.state = .halted → exec c s = .next (freeSlot i (completed s e rest .notActive b 0))))

/-- R53, R54, R55: CANCEL retires an own PENDING or WAITING record as CANCELLED, RELEASE a GRANTED one as RELEASED, in every
configured state; nothing but the table and the two queues changes. That the record then holds no notice mark follows from
R173; the model's choice against the order of R53 and R176 is notes/assumptions/28.md. -/
def Obligations.CancelAndRelease : Prop :=
  ∀ s e rest (i : SlotNo) r, Granted s e rest → s.ctl.configured = true → s.undamaged →
    (byteAt e.bytes 1).toNat = i.val → s.record i = some r → r.kind = .own →
    let done := completed s e rest .ok (byteAt e.bytes 1) r.tag
    (byteAt e.bytes 0 = 0x41 → r.state = .pending ∨ r.state = .waiting →
      ∃ t, exec .cancel s = .next t ∧ t = { done with table := t.table } ∧
        Retires i r .cancelled .withdrawn none s t) ∧
    (byteAt e.bytes 0 = 0x42 → r.state = .granted →
      ∃ t, exec .release s = .next t ∧ t = { done with table := t.table } ∧
        Retires i r .released .released none s t)

/-- R49, R51: RENEW in ACTIVE sets the term remaining of a GRANTED record back to the configured term and makes ANNOUNCE(RENEW)
due; no other slot and nothing but the two queues changes. -/
def Obligations.RenewRestartsTerm : Prop :=
  ∀ s e rest (i : SlotNo) r, Granted s e rest → byteAt e.bytes 0 = 0x43 → s.ctl.configured = true →
    s.ctl.state = .active → (s.table.get i).damaged = false → (byteAt e.bytes 1).toNat = i.val →
    s.record i = some r → r.kind = .own → r.state = .granted →
    exec .renew s = .next (writeRecord i
      { r with mainTimer := some s.ctl.config.term, due := some (.announce .renew) }
      (completed s e rest .ok (byteAt e.bytes 1) r.tag))

/-- R133, R149, R154, R155: RESYNC in ACTIVE enters FORMING and proposes the epoch plus 1, the ports untouched and a scan
abandoned; at the last epoch it halts with EPOCH_EXHAUSTED; outside ACTIVE it is refused. -/
def Obligations.ResyncForms : Prop :=
  ∀ s e rest, Granted s e rest → byteAt e.bytes 0 = 0x50 → s.ctl.configured = true → s.undamaged →
    (s.ctl.state ≠ .active → exec .resync s = .next (completed s e rest .notActive 255 0)) ∧
    (s.ctl.state = .active → s.census.epoch ≠ 0xFFFFFFFF →
      ∃ t, exec .resync s = .next t ∧ t.host = (completed s e rest .ok 255 0).host ∧ Forms s t ∧
        t.down = s.down ∧ t.up.link = s.up.link ∧
        (s.scan = none → t.up = s.up ∧ t.fh.transit = s.fh.transit) ∧
        (s.scan.isSome → t.fh.transit = s.fh.transit.filter fun x => x.cond != .inHand)) ∧
    (s.ctl.state = .active → s.census.epoch = 0xFFFFFFFF →
      ∃ t, exec .resync s = .next t ∧ t.ctl.state = .halted ∧
        t.ctl.haltCause = some .epochExhausted ∧ t.census.epoch = 0xFFFFFFFF ∧
        t.host.results = s.host.results ++ [.completion .ok 0x50 e.seq 255 0])

/-- R60, R156, R157: LEAVE in ACTIVE retires every own record not RETIRED with its notice and the RELEASE it owes, starts the leave
timer and sets the STATE notice; with nothing left to drain the station is DETACHED, CLEAN, at once; outside ACTIVE LEAVE is
refused. -/
def Obligations.LeaveRetires : Prop :=
  ∀ s e rest, Granted s e rest → byteAt e.bytes 0 = 0x51 → s.ctl.configured = true → s.undamaged →
    (s.ctl.state ≠ .active → exec .leave s = .next (completed s e rest .notActive 255 0)) ∧
    (s.ctl.state = .active → drainHolds s = false →
      ∃ t, exec .leave s = .next t ∧
        t = { completed s e rest .ok 255 0 with table := t.table, ctl := t.ctl } ∧
        t.ctl = { s.ctl with
          state := .leaving, leaveTimer := some s.ctl.config.formationLimit, leaveOutcome := none,
          stateMark := stateMarkOf .leaving s t (orphanCount s) s.fenceActive none } ∧
        t.undamaged ∧
        ∀ i, t.record i = (s.record i).map fun r =>
          if r.kind = .own ∧ r.state = .granted then
            { r with state := .retired, outcome := some (.revoked .leave), mainTimer := none,
                     waitLimit := none, waitCause := none, releaseSeen := false,
                     due := some (.release .released),
                     notice := some { notice := .revoked .leave, replaced := r.notice.isSome } }
          else if r.kind = .own ∧ (r.state = .pending ∨ r.state = .waiting) then
            { r with state := .retired, outcome := some (.failed .leave), mainTimer := none,
                     waitLimit := none, waitCause := none, releaseSeen := false,
                     due := if r.objected then some (.release .withdrawn) else none,
                     notice := some { notice := .failed .leave, replaced := r.notice.isSome } }
          else r) ∧
    (s.ctl.state = .active → drainHolds s = true →
      ∃ t, exec .leave s = .next t ∧ t.host = (completed s e rest .ok 255 0).host ∧
        t.ctl.state = .detached ∧ t.ctl.leaveOutcome = some .clean ∧ t.ctl.bypassn = false ∧
        t.up.link = .off ∧ t.down.link = .off ∧ ∀ i, t.record i = none)

/-! ### Notices -/

/-- R24, R28, R148, R173, R176, R177: a grant drains the STATE mark, else the FAULT mark, else the notice mark of the lowest slot that
holds one; the record notice is built from mark and record, the mark cleared, and a RETIRED record with no due freed;
a check error places nothing and halts; with no place free nothing is granted. -/
def Obligations.NoticesDrained : Prop :=
  (∀ s i r m, s.host.results.length < 32 → s.ctl.stateMark = none → s.ctl.faultMark = none →
    s.record i = some r → r.notice = some m → (∀ j q, j < i → s.record j = some q → q.notice = none) →
    let placed := { s with host := { s.host with results := s.host.results ++
      [.recordNotice m.notice m.replaced i r.tag r.state
        (if r.state = .granted then r.mainTimer.getD 0 else 0)] } }
    ((s.table.get i).damaged = false → r.state = .retired → r.due = none →
      exec .recordNoticeDrain s = .next (freeSlot i placed)) ∧
    ((s.table.get i).damaged = false → r.state ≠ .retired ∨ r.due ≠ none →
      exec .recordNoticeDrain s = .next (writeRecord i { r with notice := none } placed)) ∧
    ((s.table.get i).damaged = true → s.ctl.state = .halted →
      exec .recordNoticeDrain s = .next (freeSlot i s)) ∧
    ((s.table.get i).damaged = true → s.ctl.state ≠ .halted →
      ∃ t, exec .recordNoticeDrain s = .next t ∧ Halts .tableCheck s t ∧
        t.host = { s.host with commands := [] })) ∧
  (∀ s m, s.host.results.length < 32 → s.ctl.stateMark = some m →
    exec .stationNoticeDrain s = .next { s with
      ctl := { s.ctl with stateMark := none }
      host := { s.host with results := s.host.results ++ [.state m.notice m.replaced] } }) ∧
  (∀ s m, s.host.results.length < 32 → s.ctl.stateMark = none → s.ctl.faultMark = some m →
    exec .stationNoticeDrain s = .next { s with
      ctl := { s.ctl with faultMark := none }
      host := { s.host with results := s.host.results ++ [.fault m.cause m.replaced] } }) ∧
  (∀ s, 32 ≤ s.host.results.length →
    exec .stationNoticeDrain s = .next s ∧ exec .recordNoticeDrain s = .next s) ∧
  (∀ s, s.ctl.stateMark.isSome ∨ s.ctl.faultMark.isSome → exec .recordNoticeDrain s = .next s)

/-! ### Time -/

/-- R32, R49, R79, R143, R144, R158, R162: a tick counts down by one every running timer of the station's state, one that stands
at 0 waiting there (notes/assumptions/7.md), and sets TERM_LOW at the warning level; out of the ring it changes no timer. A check
error at a slot with a running timer halts the station (R28). -/
def Obligations.TickCountsTimers : Prop :=
  (∀ s, s.undamaged → inRing s.ctl.state = true →
    let counts := s.ctl.state = .active ∨ s.ctl.state = .leaving ∨ s.ctl.state = .forming
    ∃ t, exec .tick s = .next t ∧
      t = { s with table := t.table, shadow := t.shadow, census := t.census, ctl := t.ctl } ∧
      t.ctl = { s.ctl with
        tickCounter := 0
        leaveTimer := if s.ctl.state = .leaving then s.ctl.leaveTimer.map countDown
          else s.ctl.leaveTimer } ∧
      t.census = { s.census with
        retryTimer := if (s.ctl.state = .forming ∨ s.ctl.state = .isolated) ∧ s.census.censusDue = false
          then s.census.retryTimer.map countDown else s.census.retryTimer
        formationTimer := if s.ctl.state = .forming then s.census.formationTimer.map countDown
          else s.census.formationTimer } ∧
      t.shadow = { s.shadow with
        fence := if counts then s.shadow.fence.map countDown else s.shadow.fence } ∧
      (∀ i, s.record i = none → t.record i = none) ∧
      (∀ i r, s.record i = some r → r.kind = .shadow → t.record i = some
        (if counts then { r with mainTimer := r.mainTimer.map countDown } else r)) ∧
      (∀ i r, s.record i = some r → r.kind = .own → ∃ q, t.record i = some q ∧
        q = { r with
          mainTimer := r.mainTimer.map countDown, waitLimit := r.waitLimit.map countDown,
          notice := q.notice } ∧
        (r.state = .granted → s.ctl.config.warning ≠ 0 →
          (∃ left, r.mainTimer = some left ∧ left.toNat = s.ctl.config.warning.toNat + 1) →
          q.notice = some { notice := .termLow, replaced := r.notice.isSome }) ∧
        (r.state ≠ .granted ∨ s.ctl.config.warning = 0 ∨
            (∀ left, r.mainTimer = some left → left.toNat ≠ s.ctl.config.warning.toNat + 1) →
          q.notice = r.notice))) ∧
  (∀ s, inRing s.ctl.state = false →
    exec .tick s = .next { s with ctl := { s.ctl with tickCounter := 0 } }) ∧
  (∀ s i r, inRing s.ctl.state = true → s.record i = some r → (s.table.get i).damaged = true →
    (r.kind = .own ∧ (r.mainTimer.isSome ∨ r.waitLimit.isSome)) ∨
      (r.kind = .shadow ∧ r.mainTimer.isSome ∧ s.ctl.state ≠ .isolated) →
    (∀ j q, s.record j = some q → q.state = .retired → q.mainTimer = none ∧ q.waitLimit = none) →
    ∃ t, exec .tick s = .next t ∧ Halts .tableCheck { s with ctl := { s.ctl with tickCounter := 0 } } t ∧
      t.host = { s.host with commands := [] }) ∧
  (∀ w : Word16, (countDown w).toNat = w.toNat - 1)

/-- R37, R45, R48, R50, R55: the expiries of an own record's timers: a ballot loss begins a new issue or, at the fourth, retires the
record; the wait limit and the term retire it; an expiry whose timer does not stand at 0 is not taken
(notes/assumptions/7.md). A check error at the record halts the station before it acts; one that the wake rule meets
leaves the retirement standing (R28, R160); that the wake rule reads every own PENDING and WAITING record, whatever its
range, is the model's choice (notes/assumptions/5.md). -/
def Obligations.OwnTimersExpire : Prop :=
  (∀ s i r, (s.table.get i).damaged = false → s.record i = some r → r.kind = .own → r.state = .pending →
    r.mainTimer = some 0 → r.lossCount < 3 →
    exec (.ballotTimerExpiry i) s = .next (writeRecord i { r with
      lossCount := r.lossCount + 1, issue := r.issue + 1, waitCause := none, mainTimer := none,
      releaseSeen := false, due := some .ballot } s)) ∧
  (∀ s i r, s.undamaged → s.record i = some r → r.kind = .own → r.state = .pending →
    r.mainTimer = some 0 → 3 ≤ r.lossCount →
    ∃ t, exec (.ballotTimerExpiry i) s = .next t ∧ t = { s with table := t.table } ∧
      Retires i r (.failed .ringFault) .withdrawn
        (some { notice := .failed .ringFault, replaced := r.notice.isSome }) s t) ∧
  (∀ s i r, s.undamaged → s.record i = some r → r.kind = .own → r.state = .pending ∨ r.state = .waiting →
    r.waitLimit = some 0 →
    ∃ t, exec (.waitLimitExpiry i) s = .next t ∧ t = { s with table := t.table } ∧
      Retires i r (.failed .timeout) .withdrawn
        (some { notice := .failed .timeout, replaced := r.notice.isSome }) s t) ∧
  (∀ s i r, s.undamaged → s.record i = some r → r.kind = .own → r.state = .granted →
    r.mainTimer = some 0 →
    ∃ t, exec (.termExpiry i) s = .next t ∧ t = { s with table := t.table } ∧
      Retires i r .expired .expired
        (some { notice := .expired, replaced := r.notice.isSome }) s t) ∧
  (∀ s i, (∀ r, s.record i = some r → r.mainTimer ≠ some 0) →
    exec (.ballotTimerExpiry i) s = .next s ∧ exec (.termExpiry i) s = .next s ∧
    exec (.shadowTimerExpiry i) s = .next s) ∧
  (∀ s i, (∀ r, s.record i = some r → r.waitLimit ≠ some 0) → exec (.waitLimitExpiry i) s = .next s) ∧
  (∀ s i r, s.ctl.state ≠ .halted → (s.table.get i).damaged = true → s.record i = some r → r.kind = .own →
    (r.state = .pending → r.mainTimer = some 0 → meetsCheckError (.ballotTimerExpiry i) s) ∧
    (r.state = .pending ∨ r.state = .waiting → r.waitLimit = some 0 →
      meetsCheckError (.waitLimitExpiry i) s) ∧
    (r.state = .granted → r.mainTimer = some 0 → meetsCheckError (.termExpiry i) s)) ∧
  (∀ s i j r q, dueAllowed s.ctl.state = true → (s.table.get i).damaged = false → s.record i = some r →
    r.kind = .own → r.state = .granted → r.mainTimer = some 0 → (s.table.get j).damaged = true →
    s.record j = some q → q.kind = .own → q.state = .pending ∨ q.state = .waiting →
    ∃ t, exec (.termExpiry i) s = .next t ∧ t.ctl.state = .halted ∧ t.ctl.haltCause = some .tableCheck ∧
      t.record j = none ∧ t.record i = some { r with
        state := .retired, outcome := some .expired, mainTimer := none, waitLimit := none,
        waitCause := none, releaseSeen := false, due := none,
        notice := some { notice := .expired, replaced := r.notice.isSome } })

/-- R46, R86, R91: a shadow timer expiry retires the shadow as LAPSED, held only by the RELEASE(ORPHAN_LAPSED) it owes when objected
in ACTIVE or LEAVING, and wakes over its range; a fence expiry turns the fence off, owes FENCE_END when the fence
objected in ACTIVE or LEAVING, and wakes over the whole space. A check error at the shadow, or at a claim that the wake
rule reads, halts the station (R28; which slots the rule reads is the model's choice, notes/assumptions/5.md). -/
def Obligations.ShadowAndFenceExpire : Prop :=
  (∀ s i r, s.undamaged → s.record i = some r → r.kind = .shadow →
    r.state = .live ∨ r.state = .orphaned → r.mainTimer = some 0 →
    ∃ t, exec (.shadowTimerExpiry i) s = .next t ∧ t = { s with table := t.table } ∧ t.undamaged ∧
      (r.objected = true → dueAllowed s.ctl.state = true → t.record i = some { r with
        state := .retired, outcome := some .lapsed, mainTimer := none,
        due := some (.release .orphanLapsed) }) ∧
      (r.objected = false ∨ dueAllowed s.ctl.state = false → r.notice = none → t.record i = none) ∧
      ∀ j, j ≠ i → Wakes r.range s t j) ∧
  (∀ s, s.undamaged → s.shadow.fence = some 0 →
    ∃ t, exec .fenceExpiry s = .next t ∧ t = { s with table := t.table, shadow := t.shadow } ∧
      t.shadow = { s.shadow with
        fence := none, fenceObjected := false
        fenceEndDue := s.shadow.fenceEndDue ||
          (s.shadow.fenceObjected && dueAllowed s.ctl.state) } ∧
      t.undamaged ∧ ∀ j, Wakes wholeSpace s t j) ∧
  (∀ s, s.shadow.fence ≠ some 0 → exec .fenceExpiry s = .next s) ∧
  (∀ s i r, s.ctl.state ≠ .halted → (s.table.get i).damaged = true → s.record i = some r → r.kind = .shadow →
    r.state = .live ∨ r.state = .orphaned → r.mainTimer = some 0 → meetsCheckError (.shadowTimerExpiry i) s) ∧
  (∀ s i r, dueAllowed s.ctl.state = true → s.shadow.fence = some 0 → (s.table.get i).damaged = true →
    s.record i = some r → r.kind = .own → r.state = .pending ∨ r.state = .waiting →
    meetsCheckError .fenceExpiry s)

/-- R59, R94, R143 to R145, R150, R160: a census retry expiry proposes one above the greater of the best key's epoch and the
station's, or halts the station at the last epoch; a formation expiry moves FORMING to ISOLATED, where every claim and lease
retires with its notice and no RELEASE, every shadow is freed and the census goes on. A check error at a shadow, which is
read after the own records, leaves their retirements and notices standing in HALTED (R28). That a CENSUS in send
counts as sent, and that each step reads only the slots it acts on, are the model's readings
(notes/assumptions/18.md, 5.md). -/
def Obligations.CensusTimersExpire : Prop :=
  (∀ s k (top : Word32), s.census.retryTimer = some 0 → s.ctl.state = .forming ∨ s.ctl.state = .isolated →
    s.census.bestKey = some k → top.toNat = max k.epoch.toNat s.census.epoch.toNat →
    (top ≠ 0xFFFFFFFF → exec .censusRetryExpiry s = .next { s with census := { s.census with
      bestKey := some { epoch := top + 1, origin := s.stationId }
      rosterDue := none, censusDue := true, retryTimer := none } }) ∧
    (top = 0xFFFFFFFF → ∃ t, exec .censusRetryExpiry s = .next t ∧ Halts .epochExhausted s t ∧
      t.host = { s.host with commands := [] })) ∧
  (∀ s, s.undamaged → s.census.formationTimer = some 0 → s.ctl.state = .forming →
    ∃ t, exec .formationTimerExpiry s = .next t ∧
      t = { s with table := t.table, shadow := t.shadow, census := t.census, ctl := t.ctl, fh := t.fh } ∧
      t.ctl = { s.ctl with
        state := .isolated, stateMark := stateMarkOf .isolated s t 0 false none } ∧
      t.shadow = State.reset.shadow ∧
      t.fh = { s.fh with origination := [], inSend := t.fh.inSend } ∧
      t.census = { s.census with
        formationTimer := none, censusDue := t.census.censusDue, rosterDue := t.census.rosterDue } ∧
      (s.census.censusDue = true → t.census.censusDue = true) ∧
      (s.fh.inSend = none → (∃ f ∈ s.fh.origination, isCensus f = true ∧
        some (censusKey f) = s.census.bestKey) → t.census.censusDue = true) ∧
      (s.census.rosterDue.isSome → t.census.rosterDue = s.census.rosterDue) ∧
      (s.fh.origination = [] → t.census.censusDue = s.census.censusDue ∧
        t.census.rosterDue = s.census.rosterDue) ∧
      t.undamaged ∧
      ∀ i, t.record i = (s.record i).bind fun r =>
        if r.kind = .shadow then none
        else if r.state = .granted then some { r with
          state := .retired, outcome := some (.revoked .isolation), mainTimer := none,
          waitLimit := none, waitCause := none, releaseSeen := false, due := none,
          notice := some { notice := .revoked .isolation, replaced := r.notice.isSome } }
        else if r.state = .pending ∨ r.state = .waiting then some { r with
          state := .retired, outcome := some (.failed .ringFault), mainTimer := none,
          waitLimit := none, waitCause := none, releaseSeen := false, due := none,
          notice := some { notice := .failed .ringFault, replaced := r.notice.isSome } }
        else if r.state = .retired ∧ r.notice = none then none
        else some { r with due := none }) ∧
  (∀ s e x, s.census.formationTimer = some 0 → s.ctl.state = .forming → (s.table.get e).damaged = true →
    s.record e = some x → x.kind = .shadow → x.state ≠ .retired → x.due = none →
    (∀ i, i ≠ e → (s.table.get i).damaged = false) →
    ∃ t, exec .formationTimerExpiry s = .next t ∧ t.ctl.state = .halted ∧
      t.ctl.haltCause = some .tableCheck ∧ t.host = { s.host with commands := [] } ∧ t.record e = none ∧
      ∀ i r, s.record i = some r → r.kind = .own →
        (r.state = .granted → t.record i = some { r with
          state := .retired, outcome := some (.revoked .isolation), mainTimer := none,
          waitLimit := none, waitCause := none, releaseSeen := false, due := none,
          notice := some { notice := .revoked .isolation, replaced := r.notice.isSome } }) ∧
        (r.state = .pending ∨ r.state = .waiting → t.record i = some { r with
          state := .retired, outcome := some (.failed .ringFault), mainTimer := none,
          waitLimit := none, waitCause := none, releaseSeen := false, due := none,
          notice := some { notice := .failed .ringFault, replaced := r.notice.isSome } }))

/-- R157 to R159: in LEAVING the leave timer's expiry and the drain completion enter DETACHED, TIMED_OUT and CLEAN; neither is taken
elsewhere, nor while its condition does not hold. The last is the model's choice for a timer that does not stand at 0
(notes/assumptions/7.md) and for a drain condition that has ceased to hold (notes/assumptions/25.md). -/
def Obligations.LeavingEnds : Prop :=
  (∀ s, s.undamaged → s.ctl.state = .leaving → s.ctl.leaveTimer = some 0 →
    ∃ t, exec .leaveTimerExpiry s = .next t ∧ Detaches .timedOut s t ∧ t.host = s.host) ∧
  (∀ s, s.undamaged → s.ctl.state = .leaving →
    (∀ i r, s.record i = some r → r.kind = .shadow ∧ r.due = none) → s.census.censusDue = false →
    s.census.rosterDue = none → s.shadow.fenceEndDue = false → s.fh.origination = [] →
    s.fh.outstanding = 0 →
    ∃ t, exec .drainCompletion s = .next t ∧ Detaches .clean s t ∧ t.host = s.host) ∧
  (∀ s, s.ctl.state ≠ .leaving → exec .leaveTimerExpiry s = .next s ∧ exec .drainCompletion s = .next s) ∧
  (∀ s, s.ctl.leaveTimer ≠ some 0 → exec .leaveTimerExpiry s = .next s) ∧
  (∀ s i r, s.record i = some r → r.kind = .own ∨ r.due.isSome → exec .drainCompletion s = .next s) ∧
  (∀ s, s.fh.origination ≠ [] ∨ s.fh.outstanding ≠ 0 ∨ s.shadow.fenceEndDue = true →
    exec .drainCompletion s = .next s)

/-! ### Links -/

/-- R97, R103, R104, R107, R108: in UP a good frame takes a transit slot and ends the bad-frame run, a bad one is rejected with a TOKEN
until the fourth in a run, which sends the upstream port to TRAINING with the run kept at 4 and no TOKEN; elsewhere a frame is
discarded. That an arrival at a full queue, which R104 excludes, is not taken, that a frame's groups set far lock, and that
the fourth bad frame leaves receive lock as it was are the model's readings (notes/assumptions/13.md, 9.md, 8.md). -/
def Obligations.FrameArrivals : Prop :=
  ∀ s bytes,
    (∀ f, s.up.link = .up → s.fh.transit.length < 8 → checkFrame bytes = some f →
      exec (.frameArrival bytes) s = .next { s with
        up := { s.up with farLock := true, badRun := 0 }
        fh := { s.fh with transit := s.fh.transit ++ [{ frame := f, cond := .awaiting }] } }) ∧
    (s.up.link = .up → s.fh.transit.length < 8 → checkFrame bytes = none → s.up.badRun < 3 →
      exec (.frameArrival bytes) s = .next { s with
        up := { s.up with farLock := true, badRun := s.up.badRun + 1, sent := s.up.sent ++ [.token] } }) ∧
    (s.undamaged → s.up.link = .up → s.fh.transit.length < 8 → checkFrame bytes = none → 3 ≤ s.up.badRun →
      ∃ t, exec (.frameArrival bytes) s = .next t ∧ UpstreamLost s t ∧
        (inRing s.ctl.state = true → s.ctl.state ≠ .leaving → s.census.epoch ≠ 0xFFFFFFFF →
          t.up.badRun = 4 ∧ t.up.receiveLock = s.up.receiveLock)) ∧
    (s.up.link = .off ∨ s.up.link = .training ∨ (s.up.link = .up ∧ 8 ≤ s.fh.transit.length) →
      exec (.frameArrival bytes) s = .next s) ∧
    (s.up.link = .creditWait →
      exec (.frameArrival bytes) s = .next { s with up := { s.up with farLock := true } })

/-- R97, R99, R101, R181: 8 groups of the code lock a receiver in TRAINING and move its port to CREDIT_WAIT; a group of the normal
stream sets far lock and the training pattern clears it without a move below UP; a loss of lock takes CREDIT_WAIT back to
TRAINING and keeps TRAINING; a port in OFF takes no event. That a port in TRAINING may hold its lock is the model's
reading (notes/assumptions/8.md). -/
def Obligations.LocksFollowTheLane : Prop :=
  ∀ s : State,
    (∀ groups, givesAlignment groups = true →
      (s.up.link = .training → exec (.receiveLockGained .upstream groups) s = .next { s with
        up := { s.up with link := .creditWait, receiveLock := true, advertisementOwed := true } }) ∧
      (s.up.link ≠ .training → exec (.receiveLockGained .upstream groups) s = .next s) ∧
      (s.down.link = .training → exec (.receiveLockGained .downstream groups) s = .next { s with
        down := { s.down with link := .creditWait, receiveLock := true, credit := 0 } }) ∧
      (s.down.link ≠ .training → exec (.receiveLockGained .downstream groups) s = .next s)) ∧
    (∀ inFrame g, receive .upstream inFrame g = .normal → s.up.receiveLock = true → s.up.link ≠ .off →
      exec (.farLockSet .upstream inFrame g) s = .next { s with up := { s.up with farLock := true } }) ∧
    (∀ inFrame g, receive .downstream inFrame g = .normal → s.down.receiveLock = true →
      s.down.link ≠ .off →
      exec (.farLockSet .downstream inFrame g) s =
        .next { s with down := { s.down with farLock := true } }) ∧
    (s.up.receiveLock = true → s.up.link = .training ∨ s.up.link = .creditWait →
      exec (.farLockClear .upstream) s = .next { s with up := { s.up with farLock := false } }) ∧
    (s.down.receiveLock = true → s.down.link = .training ∨ s.down.link = .creditWait →
      exec (.farLockClear .downstream) s = .next { s with down := { s.down with farLock := false } }) ∧
    (∀ cause, unlocks .upstream cause = true →
      (s.up.link = .training → exec (.receiveLockLost .upstream cause) s = .next { s with
        up := { s.up with receiveLock := false, farLock := false } }) ∧
      (s.up.link = .creditWait → exec (.receiveLockLost .upstream cause) s = .next { s with
        up := { s.up with
          link := .training, receiveLock := false, farLock := false, advertisementOwed := false } })) ∧
    (∀ cause, unlocks .downstream cause = true →
      (s.down.link = .training → exec (.receiveLockLost .downstream cause) s = .next { s with
        down := { s.down with receiveLock := false, farLock := false } }) ∧
      (s.down.link = .creditWait → exec (.receiveLockLost .downstream cause) s = .next { s with
        fh := { s.fh with inSend := none }
        down := { s.down with
          link := .training, receiveLock := false, farLock := false, credit := 0
          sent := s.down.sent ++ (s.fh.inSend.map fun x => .cutOff x.bytes).toList } })) ∧
    (∀ groups cause inFrame g,
      (s.up.link = .off → exec (.receiveLockGained .upstream groups) s = .next s ∧
        exec (.receiveLockLost .upstream cause) s = .next s ∧
        exec (.farLockSet .upstream inFrame g) s = .next s ∧ exec (.farLockClear .upstream) s = .next s ∧
        exec .rebase s = .next s ∧ exec .advertiseSend s = .next s) ∧
      (s.down.link = .off → exec (.receiveLockGained .downstream groups) s = .next s ∧
        exec (.receiveLockLost .downstream cause) s = .next s ∧
        exec (.farLockSet .downstream inFrame g) s = .next s ∧
        exec (.farLockClear .downstream) s = .next s ∧
        exec .token s = .next s ∧ exec .advertise s = .next s))

/-- R95, R97, R101, R105, R109, R121: a port in UP that loses receive lock, or far lock, enters TRAINING, with the effects of a
port's departure from UP. Where a REBASE waits that a frame in send keeps back is the model's reading
(notes/assumptions/11.md, 26.md). -/
def Obligations.PortsLeaveUp : Prop :=
  (∀ s cause, s.undamaged → inRing s.ctl.state = true → s.up.link = .up → unlocks .upstream cause = true →
    ∃ t, exec (.receiveLockLost .upstream cause) s = .next t ∧ UpstreamLost s t ∧
      t.up.receiveLock = false ∧ t.up.farLock = false) ∧
  (∀ s, s.undamaged → inRing s.ctl.state = true → s.up.link = .up → s.up.receiveLock = true →
    ∃ t, exec (.farLockClear .upstream) s = .next t ∧ UpstreamLost s t ∧ t.up.farLock = false) ∧
  (∀ s cause, s.undamaged → inRing s.ctl.state = true → s.down.link = .up →
    unlocks .downstream cause = true →
    ∃ t, exec (.receiveLockLost .downstream cause) s = .next t ∧ DownstreamLost s t ∧
      t.down.receiveLock = false ∧ t.down.farLock = false) ∧
  (∀ s, s.undamaged → inRing s.ctl.state = true → s.down.link = .up → s.down.receiveLock = true →
    ∃ t, exec (.farLockClear .downstream) s = .next t ∧ DownstreamLost s t ∧ t.down.farLock = false)

/-- R97, R99, R100, R102, R106, R108: a TOKEN in UP adds 1 to the credit, up to 8; an ADVERTISE takes CREDIT_WAIT to UP with credit 8
and is a loss of lock in UP; a REBASE in UP makes an advertisement owed; the owed advertisement goes out with far lock set
and the transit queue empty, and takes CREDIT_WAIT to UP with the bad-frame run at 0. That a symbol
sets far lock by the same event is the model's reading (notes/assumptions/9.md). -/
def Obligations.CreditSymbols : Prop :=
  ∀ s : State,
    (s.down.link = .up → s.down.credit < 8 → exec .token s = .next { s with
      down := { s.down with farLock := true, credit := s.down.credit + 1 } }) ∧
    (s.down.link = .up ∧ 8 ≤ s.down.credit ∨ s.down.link = .creditWait → exec .token s = .next { s with
      down := { s.down with farLock := true } }) ∧
    (s.down.link = .training → exec .token s = .next s ∧ exec .advertise s = .next s) ∧
    (s.down.link = .creditWait → exec .advertise s = .next { s with
      down := { s.down with link := .up, farLock := true, credit := 8 } }) ∧
    (s.down.link = .up → exec .advertise s = exec (.receiveLockLost .downstream .alignmentLost) s) ∧
    (s.up.link = .up → exec .rebase s = .next { s with
      up := { s.up with farLock := true, advertisementOwed := true } }) ∧
    (s.up.link = .creditWait → exec .rebase s = .next { s with up := { s.up with farLock := true } }) ∧
    (s.up.link = .creditWait → s.up.advertisementOwed = true → s.up.farLock = true → s.fh.transit = [] →
      exec .advertiseSend s = .next { s with
        up := { s.up with
          link := .up, advertisementOwed := false, badRun := 0
          sent := s.up.sent ++ [.advertise] } }) ∧
    (s.up.link = .up → s.up.advertisementOwed = true → s.up.farLock = true → s.fh.transit = [] →
      exec .advertiseSend s = .next { s with
        up := { s.up with advertisementOwed := false, sent := s.up.sent ++ [.advertise] } }) ∧
    (s.up.advertisementOwed = false ∨ s.up.farLock = false ∨ s.fh.transit ≠ [] →
      exec .advertiseSend s = .next s)

/-! ### Frames -/

/-- R103, R115 to R118: the frames that leave the transit queue as they are taken: a foreign frame at hop count 15 or more; in ACTIVE and
LEAVING a BALLOT, ANNOUNCE or RELEASE of another epoch, a CENSUS not above the epoch and every ROSTER; in FORMING and
ISOLATED a BALLOT, ANNOUNCE or RELEASE; and an own frame other than a BALLOT or, in FORMING and ISOLATED, a CENSUS. That
a BALLOT filtered in FORMING and ISOLATED goes no further, where R118 also speaks of its return, is the model's choice
(notes/assumptions/27.md). -/
def Obligations.FramesDiscardedOrStripped : Prop :=
  (∀ s ready f later, Takes s ready f later → f.origin ≠ s.stationId →
    (15 ≤ f.hop.toNat ∨
      (dueAllowed s.ctl.state = true ∧ isCounted f = true ∧ f.epoch ≠ s.census.epoch) ∨
      (dueAllowed s.ctl.state = true ∧ isCensus f = true ∧ f.epoch.toNat ≤ s.census.epoch.toNat) ∨
      (dueAllowed s.ctl.state = true ∧ ∃ members, f.body = .roster members) ∨
      (dueAllowed s.ctl.state = false ∧ isCounted f = true)) →
    exec .frameTaking s = .next (leftQueue s ready later)) ∧
  (∀ s ready f later, Takes s ready f later → f.origin = s.stationId → isBallot f = false →
    (isCensus f = true → dueAllowed s.ctl.state = true) →
    exec .frameTaking s = .next (stripped s ready f later)) ∧
  (∀ s, (∀ x ∈ s.fh.transit, x.cond ≠ .awaiting) → exec .frameTaking s = .next s) ∧
  (∀ s, s.scan.isSome → handFrame s ≠ none → exec .frameTaking s = .next s)

/-- The own record that a returning ballot matches (R40): the lowest PENDING one of its count and issue whose ballot timer runs. -/
def Returns (s : State) (b : Ballot) (i : SlotNo) (r : Record) : Prop :=
  s.record i = some r ∧ r.kind = .own ∧ r.state = .pending ∧ r.identity.count = b.count ∧
    r.issue = b.issue ∧ r.mainTimer.isSome ∧
  ∀ j q, j < i → s.record j = some q →
    ¬ (q.kind = .own ∧ q.state = .pending ∧ q.identity.count = b.count ∧ q.issue = b.issue ∧
      q.mainTimer.isSome)

/-- R40 to R44: a genuine return of an own ballot: no objector grants the record; with objectors it goes round again when
release-seen is set, else fails with NO_WAIT, else waits. -/
def Obligations.GenuineReturnDecides : Prop :=
  ∀ s ready f later b i r, Takes s ready f later → f.origin = s.stationId → f.body = .ballot b →
    f.epoch = s.census.epoch → s.undamaged → Returns s b i r →
    (∀ n : StationId, b.visited.getLsbD n.toNat = true ↔ n ∈ s.census.roster ∧ n ≠ s.stationId) →
    (b.objectors = 0 → exec .frameTaking s = .next (writeRecord i
      { r with
        state := .granted, mainTimer := some s.ctl.config.term, waitLimit := none, waitCause := none,
        releaseSeen := false, due := some (.announce .grant), lossCount := 0,
        notice := some { notice := .granted, replaced := r.notice.isSome } }
      (stripped s ready f later))) ∧
    (b.objectors ≠ 0 → r.releaseSeen = true → exec .frameTaking s = .next (writeRecord i
      { r with
        issue := r.issue + 1, waitCause := none, mainTimer := none, releaseSeen := false,
        due := some .ballot, lossCount := 0 }
      (stripped s ready f later))) ∧
    (b.objectors ≠ 0 → r.releaseSeen = false → r.noWait = false → exec .frameTaking s =
      .next (writeRecord i (enterWaiting .remote { r with lossCount := 0 }) (stripped s ready f later))) ∧
    (b.objectors ≠ 0 → r.releaseSeen = false → r.noWait = true →
      ∃ t, exec .frameTaking s = .next t ∧ t = { stripped s ready f later with table := t.table } ∧
        Retires i { r with lossCount := 0 } (.failed .conflict) .withdrawn
          (some { notice := .failed .conflict, replaced := r.notice.isSome }) s t)

/-- R33, R37, R40, R41, R45, R47: a return with a wrong visited set is a loss; a ballot that matches no record, or is of another epoch,
is stripped with no effect; the entry to WAITING sets a notice the first time alone. -/
def Obligations.LostAndStaleReturns : Prop :=
  (∀ s ready f later b i r, Takes s ready f later → f.origin = s.stationId → f.body = .ballot b →
    f.epoch = s.census.epoch → s.undamaged → Returns s b i r → b.visited ≠ expectedVisitors s →
    (r.lossCount < 3 → exec .frameTaking s = .next (writeRecord i
      { r with
        issue := r.issue + 1, waitCause := none, mainTimer := none, releaseSeen := false,
        due := some .ballot, lossCount := r.lossCount + 1 }
      (stripped s ready f later))) ∧
    (3 ≤ r.lossCount →
      ∃ t, exec .frameTaking s = .next t ∧ t = { stripped s ready f later with table := t.table } ∧
        Retires i r (.failed .ringFault) .withdrawn
          (some { notice := .failed .ringFault, replaced := r.notice.isSome }) s t)) ∧
  (∀ s ready f later b, Takes s ready f later → f.origin = s.stationId → f.body = .ballot b →
    (f.epoch ≠ s.census.epoch ∨ (s.undamaged ∧ ∀ i r, ¬ Returns s b i r)) →
    exec .frameTaking s = .next (stripped s ready f later)) ∧
  (∀ cause r, enterWaiting cause r = { r with
    state := .waiting, waitCause := some cause, mainTimer := none, due := none, releaseSeen := false,
    waitingReported := true,
    notice := if r.waitingReported then r.notice
      else some { notice := .waiting cause, replaced := r.notice.isSome } })

/-- The shadow an ANNOUNCE creates (R3, R17, R80, R82, R184): LIVE, with the identity, range and mode of the frame and the
clamped term as announced term and timer; every other field starts empty. -/
def shadowOf (identity : Stamp) (a : Announce) : Record where
  kind := .shadow
  state := .live
  range := a.range
  mode := if a.mode = 0x01 then .shared else .exclusive
  identity := identity
  objected := false
  due := none
  mainTimer := some (clampTerm a.term)
  tag := 0
  noWait := false
  waitLimit := none
  issue := 0
  lossCount := 0
  releaseSeen := false
  waitCause := none
  notice := none
  outcome := none
  waitingReported := false
  announcedTerm := clampTerm a.term

/-- R3, R17, R80 to R83, R184: a foreign ANNOUNCE of the epoch refreshes the LIVE or ORPHANED shadow of its identity, creates one in
the lowest FREE slot, or sets INCOMPLETE when the shadow is RETIRED or no slot is FREE; it is forwarded in every case. The
shadow created is LIVE with the frame's identity and range, mode SHARED at 01h and EXCLUSIVE at every other byte, announced
term and timer at the term clamped to 100..60000, and nothing marked or due. -/
def Obligations.ForeignAnnounce : Prop :=
  ∀ s ready f later a, Takes s ready f later → f.origin ≠ s.stationId → f.hop.toNat < 15 →
    dueAllowed s.ctl.state = true → f.epoch = s.census.epoch → f.body = .announce a → s.undamaged →
    let identity : Stamp := { epoch := a.leaseEpoch, count := a.count, id := f.origin }
    let on := forwarded s ready f later
    (∀ i r, s.record i = some r → r.kind = .shadow → r.identity = identity →
      (∀ j q, j < i → s.record j = some q → ¬ (q.kind = .shadow ∧ q.identity = identity)) →
      (r.state ≠ .retired → exec .frameTaking s = .next (writeRecord i
        { r with state := .live, mainTimer := some (clampTerm a.term), announcedTerm := clampTerm a.term } on)) ∧
      (r.state = .retired → exec .frameTaking s =
        .next { on with shadow := { s.shadow with incomplete := true } })) ∧
    ((∀ j q, s.record j = some q → ¬ (q.kind = .shadow ∧ q.identity = identity)) →
      (∀ i, s.record i = none → (∀ j, j < i → s.record j ≠ none) →
        exec .frameTaking s = .next (writeRecord i (shadowOf identity a) on)) ∧
      ((∀ i, s.record i ≠ none) → exec .frameTaking s =
        .next { on with shadow := { s.shadow with incomplete := true } })) ∧
    (clampTerm a.term).toNat = max 100 (min 60000 a.term.toNat)

/-- R25, R46, R84, R85, R184: a foreign RELEASE of the epoch retires the LIVE or ORPHANED shadow it names, held only by the RELEASE it
owes when objected, and wakes over the frame's range and over the retired shadow's; with no such shadow it wakes over the
frame's range; a FENCE_END wakes over the whole space without a lookup; the frame is forwarded. The reason byte is RELEASED
at 01h, EXPIRED at 02h, WITHDRAWN at 03h, ORPHAN_LAPSED at 04h and FENCE_END at 05h, and RELEASED at any other value. That the two ranges are
taken in one run, no record waking twice, is the model's reading (notes/assumptions/14.md). -/
def Obligations.ForeignRelease : Prop :=
  (∀ s ready f later x, Takes s ready f later → f.origin ≠ s.stationId → f.hop.toNat < 15 →
    dueAllowed s.ctl.state = true → f.epoch = s.census.epoch → f.body = .release x → s.undamaged →
    let identity : Stamp := { epoch := x.leaseEpoch, count := x.count, id := x.holder }
    let on := forwarded s ready f later
    ∃ t, exec .frameTaking s = .next t ∧ t = { on with table := t.table } ∧ t.undamaged ∧
      (x.reason = 0x05 → ∀ j, Wakes wholeSpace s t j) ∧
      (x.reason ≠ 0x05 → ∀ i r, s.record i = some r → r.kind = .shadow → r.identity = identity →
        r.state ≠ .retired →
        (∀ j q, j < i → s.record j = some q → ¬ (q.kind = .shadow ∧ q.identity = identity)) →
        (r.objected = false → r.notice = none → t.record i = none) ∧
        (r.objected = true → t.record i = some { r with
          state := .retired, outcome := some .released, mainTimer := none,
          due := some (.release (reasonOfByte x.reason)) }) ∧
        ∀ j, j ≠ i → WakesOver (fun y => overlaps y x.range || overlaps y r.range) s t j) ∧
      (x.reason ≠ 0x05 →
        (∀ j q, s.record j = some q → ¬ (q.kind = .shadow ∧ q.identity = identity ∧ q.state ≠ .retired)) →
        ∀ j, Wakes x.range s t j)) ∧
  (∀ b : Byte, reasonOfByte b = match b.toNat with
    | 1 => .released
    | 2 => .expired
    | 3 => .withdrawn
    | 4 => .orphanLapsed
    | 5 => .fenceEnd
    | _ => .released)

/-- R3, R10, R64 to R70, R120, R184: a foreign BALLOT of the epoch raises the clock and starts a scan at slot 0, or with the fence active is objected to
at once; each visit judges one slot, marks the record that objects and moves on; after slot 63 the ballot carries this
station's bit in the visited set and, on an objection, in the objector set. The ballot's mode byte is SHARED at 01h and
EXCLUSIVE at every other value. A visit that meets a check error halts the
station (R28). -/
def Obligations.BallotScanned : Prop :=
  (∀ s ready f later b, Takes s ready f later → f.origin ≠ s.stationId → f.hop.toNat < 15 →
    dueAllowed s.ctl.state = true → f.epoch = s.census.epoch → f.body = .ballot b →
    let clock := if s.clock.toNat < b.count.toNat then b.count else s.clock
    (s.fenceActive = false → exec .frameTaking s = .next { s with
      clock := clock
      scan := some { nextSlot := 0, objection := false }
      fh := { s.fh with transit := ready ++ { frame := f, cond := .inHand } :: later } }) ∧
    (s.fenceActive = true → exec .frameTaking s = .next { forwarded s ready (writeVerdict s.stationId true f) later with
      clock := clock
      shadow := { s.shadow with fenceObjected := true } })) ∧
  (∀ s ready f later b (i : SlotNo) found, s.fh.transit = ready ++ { frame := f, cond := .inHand } :: later →
    (∀ x ∈ ready, x.cond = .ready) → (∀ x ∈ later, x.cond = .awaiting) → f.body = .ballot b →
    s.scan = some { nextSlot := i.val, objection := found } → (s.table.get i).damaged = false →
    let stamp : Stamp := { epoch := f.epoch, count := b.count, id := f.origin }
    let mode : Mode := if b.mode = 0x01 then .shared else .exclusive
    let objects (r : Record) : Prop := conflicts r.range r.mode b.range mode = true ∧
      ((r.kind = .own ∧ (r.state = .granted ∨
        ((r.state = .pending ∨ r.state = .waiting) ∧ precedes r.identity stamp = true))) ∨
       (r.kind = .shadow ∧ r.state = .orphaned))
    (∀ r, s.record i = some r → objects r → ∃ t, exec .scanVisit s = .next t ∧
      t.table = s.table.set i { content := some { r with objected := true }, damaged := false } ∧
      (i.val < 63 → t = { s with table := t.table, scan := some { nextSlot := i.val + 1, objection := true } }) ∧
      (i.val = 63 → t = { forwarded s ready (writeVerdict s.stationId true f) later with
        table := t.table, scan := none })) ∧
    ((∀ r, s.record i = some r → ¬ objects r) →
      (i.val < 63 → exec .scanVisit s = .next { s with
        scan := some { nextSlot := i.val + 1, objection := found } }) ∧
      (i.val = 63 → exec .scanVisit s =
        .next { forwarded s ready (writeVerdict s.stationId found f) later with scan := none }))) ∧
  (∀ s ready f later b (i : SlotNo) found, s.fh.transit = ready ++ { frame := f, cond := .inHand } :: later →
    (∀ x ∈ ready, x.cond = .ready) → f.body = .ballot b → s.scan = some { nextSlot := i.val, objection := found } →
    s.ctl.state ≠ .halted → (s.table.get i).damaged = true → meetsCheckError .scanVisit s) ∧
  (∀ id objection f b, f.body = .ballot b → ∃ v o, writeVerdict id objection f =
      { f with body := .ballot { b with visited := v, objectors := o } } ∧
    (∀ n : StationId, v.getLsbD n.toNat = (b.visited.getLsbD n.toNat || n == id)) ∧
    (∀ n : StationId, o.getLsbD n.toNat = (b.objectors.getLsbD n.toNat || (objection && n == id))))

/-- R117, R118, R132, R135, R136, R146: a foreign CENSUS is judged by its member list and key: it halts the station, is discarded, is forwarded
with DUPLICATE, or is accepted with this station's ID appended (OVERFULL at 16 members, unchanged under a flag); in
ACTIVE a CENSUS above the epoch first moves the station to FORMING, in LEAVING to DETACHED. OVERFULL under a flag is the model's
reading (notes/assumptions/16.md). -/
def Obligations.ForeignCensusJudged : Prop :=
  ∀ s ready f later members k, Takes s ready f later → f.origin ≠ s.stationId → f.hop.toNat < 15 →
    f.body = .census members → s.census.bestKey = some k →
    let key : Key := { epoch := f.epoch, origin := f.origin }
    let joined : Frame :=
      if members.length = 16 then { f with overfull := true }
      else if f.duplicate = true ∨ f.overfull = true then f
      else { f with body := .census (members ++ [s.stationId]) }
    (formingOrIsolated s.ctl.state = true → s.stationId ∈ members → keyAbove key k = true →
      ∃ t, exec .frameTaking s = .next t ∧ Halts .duplicateId s t) ∧
    (formingOrIsolated s.ctl.state = true → s.stationId ∈ members → keyAbove key k = false →
      exec .frameTaking s = .next (leftQueue s ready later)) ∧
    (formingOrIsolated s.ctl.state = true → s.stationId ∉ members → keyAbove k key = true →
      exec .frameTaking s = .next (leftQueue s ready later)) ∧
    (formingOrIsolated s.ctl.state = true → s.stationId ∉ members → key = k →
      exec .frameTaking s = .next (forwarded s ready { f with duplicate := true } later)) ∧
    (formingOrIsolated s.ctl.state = true → s.stationId ∉ members → keyAbove key k = true →
      exec .frameTaking s = .next { forwarded s ready joined later with census := { s.census with
        bestKey := some key, censusDue := false, rosterDue := none, retryTimer := some 10 } }) ∧
    (s.ctl.state = .active → s.undamaged → s.scan = none → s.census.epoch.toNat < f.epoch.toNat →
      keyAbove key k = true → s.stationId ∉ members →
      ∃ t, exec .frameTaking s = .next t ∧ t.up = s.up ∧ t.down = s.down ∧ t.host = s.host ∧
        t.clock = s.clock ∧ t.fh.transit = (forwarded s ready joined later).fh.transit ∧
        t.fh.origination = [] ∧ t.fh.outstanding = s.fh.outstanding ∧ FormingTable s t ∧
        t.shadow = { s.shadow with fenceEndDue := false } ∧
        t.ctl = { s.ctl with
          state := .forming, stateMark := stateMarkOf .forming s t (orphanCount t) s.fenceActive none } ∧
        t.census = { s.census with
          bestKey := some key, censusDue := false, rosterDue := none, retryTimer := some 10,
          formationTimer := some s.ctl.config.formationLimit }) ∧
    (s.ctl.state = .active → s.undamaged → s.scan = none → s.census.epoch.toNat < f.epoch.toNat →
      keyAbove key k = true → s.stationId ∈ members →
      ∃ t, exec .frameTaking s = .next t ∧ t.ctl.state = .halted ∧ t.ctl.haltCause = some .duplicateId) ∧
    (s.ctl.state = .leaving → s.undamaged → s.census.epoch.toNat < f.epoch.toNat →
      ∃ t, exec .frameTaking s = .next t ∧ Detaches .interrupted s t)

/-- R137, R146: a returned own CENSUS in FORMING or ISOLATED: a key above the best, or DUPLICATE, halts the station; OVERFULL
sets FAULT(RING_OVERFULL); 2 to 16 distinct members make the ROSTER due; every other return has no effect. -/
def Obligations.OwnCensusReturns : Prop :=
  ∀ s ready f later members k, Takes s ready f later → f.origin = s.stationId →
    f.body = .census members → s.census.bestKey = some k → formingOrIsolated s.ctl.state = true →
    let key : Key := { epoch := f.epoch, origin := f.origin }
    let gone := leftQueue s ready later
    (keyAbove key k = true ∨ (key = k ∧ f.duplicate = true) →
      ∃ t, exec .frameTaking s = .next t ∧ t.ctl.state = .halted ∧ t.ctl.haltCause = some .duplicateId ∧
        t.up.link = .off ∧ t.down.link = .off ∧ t.fh.transit = []) ∧
    (keyAbove k key = true → exec .frameTaking s = .next gone) ∧
    (key = k → f.duplicate = false → f.overfull = true → exec .frameTaking s = .next { gone with
      ctl := { s.ctl with
        faultMark := some { cause := .ringOverfull, replaced := s.ctl.faultMark.isSome } } }) ∧
    (key = k → f.duplicate = false → f.overfull = false → 2 ≤ members.length → members.length ≤ 16 →
      members.Nodup → exec .frameTaking s = .next { gone with
        census := { s.census with rosterDue := some { epoch := f.epoch, members := members } } }) ∧
    (key = k → f.duplicate = false → f.overfull = false → members.length < 2 ∨ ¬ members.Nodup →
      exec .frameTaking s = .next gone)

/-- R9, R58, R88, R89, R138, R139, R141: a foreign ROSTER of the best key that names this station is adopted and forwarded; another is
discarded; the service of the ROSTER due queues the ROSTER, removes the queued CENSUS frames and adopts in the same
event. -/
def Obligations.RosterAdopted : Prop :=
  (∀ s ready f later members k, Takes s ready f later → f.origin ≠ s.stationId → f.hop.toNat < 15 →
    f.body = .roster members → s.census.bestKey = some k → formingOrIsolated s.ctl.state = true →
    s.undamaged →
    (k = { epoch := f.epoch, origin := f.origin } → s.stationId ∈ members → members.Nodup →
      2 ≤ members.length → members.length ≤ 16 →
      ∃ t, exec .frameTaking s = .next t ∧ Adopts f.epoch members s t ∧
        t.fh.transit = (forwarded s ready f later).fh.transit ∧
        t.fh.origination = s.fh.origination.filter fun g => !isCensus g) ∧
    (k ≠ { epoch := f.epoch, origin := f.origin } ∨ s.stationId ∉ members ∨ ¬ members.Nodup ∨
        members.length < 2 ∨ 16 < members.length →
      exec .frameTaking s = .next (leftQueue s ready later))) ∧
  (∀ s d, s.fh.origination.length < 16 → formingOrIsolated s.ctl.state = true →
    s.census.rosterDue = some d → (s.census.censusDue = false ∨ s.up.link ≠ .up ∨ s.down.link ≠ .up) →
    s.undamaged →
    ∃ t, exec .dueService s = .next t ∧ Adopts d.epoch d.members s t ∧ t.fh.transit = s.fh.transit ∧
      t.fh.origination = s.fh.origination.filter (fun g => !isCensus g) ++
        [{ origin := s.stationId, duplicate := false, overfull := false, hop := 0, epoch := d.epoch,
           body := .roster d.members }])

/-- R22, R38, R52, R55, R87, R92, R124 to R126, R134: due service, while the origination queue has room, serves the CENSUS due with both ports
UP, then the FENCE_END due, then the due of the lowest slot: it builds the frame from the record as it stands, queues it
and clears the due; a BALLOT due runs the local scan first, and a RELEASE due frees a record with no notice. A check error
at the slot, or in the local scan, halts the station with nothing queued (R28). -/
def Obligations.DuesServed : Prop :=
  (∀ s k, s.fh.origination.length < 16 → formingOrIsolated s.ctl.state = true → s.census.censusDue = true →
    s.up.link = .up → s.down.link = .up → s.census.bestKey = some k →
    exec .dueService s = .next { s with
      census := { s.census with censusDue := false }
      fh := { s.fh with origination := s.fh.origination ++ [ownFrame s k.epoch (.census [s.stationId])] } }) ∧
  (∀ s, s.fh.origination.length < 16 → dueAllowed s.ctl.state = true → s.shadow.fenceEndDue = true →
    exec .dueService s = .next { s with
      shadow := { s.shadow with fenceEndDue := false }
      fh := { s.fh with origination := s.fh.origination ++ [ownFrame s s.census.epoch (.release {
        holder := s.stationId, reason := 0x05, leaseEpoch := s.census.epoch, count := 0, mode := 0x02,
        range := { first := 0, last := 0xFFFFFFFFFF } })] } }) ∧
  (∀ s i r, s.fh.origination.length < 16 → dueAllowed s.ctl.state = true → s.shadow.fenceEndDue = false →
    s.undamaged → s.record i = some r → (∀ j q, j < i → s.record j = some q → q.due = none) →
    let queued (f : Frame) : State :=
      { s with fh := { s.fh with origination := s.fh.origination ++ [f] } }
    (∀ c, r.due = some (.announce c) → exec .dueService s = .next (writeRecord i { r with due := none }
      (queued (ownFrame s s.census.epoch (.announce {
        leaseEpoch := r.identity.epoch, count := r.identity.count, cause := causeByte c,
        mode := modeByte r.mode, range := r.range, term := s.ctl.config.term }))))) ∧
    (∀ reason, r.due = some (.release reason) →
      let f := ownFrame s s.census.epoch (.release {
        holder := if r.kind = .own then s.stationId else r.identity.id, reason := reasonByte reason,
        leaseEpoch := r.identity.epoch, count := r.identity.count, mode := modeByte r.mode,
        range := r.range })
      (r.state = .retired → r.notice = none → exec .dueService s = .next (freeSlot i (queued f))) ∧
      (r.notice ≠ none → exec .dueService s =
        .next (writeRecord i { r with due := none } (queued f)))) ∧
    (r.due = some .ballot →
      (s.fenceActive = true ∨ blocks s i r.identity r.range r.mode → exec .dueService s =
        .next (writeRecord i (enterWaiting .localScan r) s)) ∧
      (s.fenceActive = false → ¬ blocks s i r.identity r.range r.mode → exec .dueService s =
        .next (writeRecord i { r with due := none } (queued (ownFrame s r.identity.epoch (.ballot {
          count := r.identity.count, issue := r.issue, mode := modeByte r.mode, range := r.range,
          visited := 0, objectors := 0 }))))))) ∧
  (∀ s i r, s.fh.origination.length < 16 → dueAllowed s.ctl.state = true → s.shadow.fenceEndDue = false →
    s.record i = some r → (∀ j q, j < i → s.record j = some q → q.due = none) →
    (r.due ≠ none → (s.table.get i).damaged = true → meetsCheckError .dueService s) ∧
    (∀ j, r.due = some .ballot → (s.table.get i).damaged = false → s.fenceActive = false → j ≠ i →
      s.record j ≠ none → (s.table.get j).damaged = true → meetsCheckError .dueService s)) ∧
  (∀ s, 16 ≤ s.fh.origination.length → exec .dueService s = .next s)

/-- R128, R129: the arbiter chooses among the eligible candidates by the table of R129, and a chosen frame stays in its queue while in
send; with no eligible candidate nothing is chosen. -/
def Obligations.ArbiterChooses : Prop :=
  ∀ s : State,
    let transitEligible (f : Frame) : Prop := s.down.link = .up ∧ s.fh.inSend = none ∧
      s.fh.transit.head? = some { frame := f, cond := .ready } ∧ 1 ≤ s.down.credit
    let ownEligible (f : Frame) : Prop := s.down.link = .up ∧ s.fh.inSend = none ∧
      s.fh.origination.head? = some f ∧ 2 ≤ s.down.credit
    let chosen (f : Frame) (src : SendSource) (position : Nat) : State := { s with fh := { s.fh with
      arbiterPos := position
      inSend := some { frame := f, source := src, bytes := frameBytes f, left := false, rebases := 0 } } }
    (∀ f, transitEligible f → (∀ g, ¬ ownEligible g) →
      exec .arbiterChoice s = .next (chosen f .transit 0)) ∧
    (∀ g, ownEligible g → (∀ f, ¬ transitEligible f) →
      exec .arbiterChoice s = .next (chosen g .origination 0)) ∧
    (∀ f g, transitEligible f → ownEligible g → s.fh.arbiterPos ≤ 3 →
      exec .arbiterChoice s = .next (chosen f .transit (s.fh.arbiterPos + 1))) ∧
    (∀ f g, transitEligible f → ownEligible g → s.fh.arbiterPos = 4 →
      exec .arbiterChoice s = .next (chosen g .origination 0)) ∧
    ((∀ f, ¬ transitEligible f) → (∀ g, ¬ ownEligible g) → exec .arbiterChoice s = .next s)

/-- R39, R102, R103, R105, R122, R130, R134: the departure of the frame in send: it leaves its queue if it has not yet, a transit slot
returning a TOKEN; credit falls by 1, and where a rebase has set it to 0 stays there; a REBASE that waits for the frame goes
out behind it; an own BALLOT, ANNOUNCE or RELEASE
raises the outstanding count, held at 65535; an own BALLOT starts the ballot timer of the record it was built from; an own
CENSUS of the best key starts the retry timer. The count of old epochs, the place of REBASE, that it goes out from a
port that is UP again, and when the retry timer starts are the model's readings
(notes/assumptions/19.md, 11.md, 26.md, 23.md). -/
def Obligations.FrameDeparts : Prop :=
  ∀ s x, s.fh.inSend = some x →
    let lane : DownstreamPort := { s.down with
      credit := s.down.credit - 1
      sent := s.down.sent ++ .frame x.bytes :: List.replicate x.rebases .rebase }
    let origination := if x.left then s.fh.origination else s.fh.origination.tail
    let raised := if s.fh.outstanding = 65535 then 65535 else s.fh.outstanding + 1
    (x.source = .transit → exec .frameDeparture s = .next { s with
      down := lane
      up := { s.up with
        sent := if x.left = false ∧ s.up.link = .up then s.up.sent ++ [.token] else s.up.sent }
      fh := { s.fh with
        inSend := none, transit := if x.left then s.fh.transit else s.fh.transit.tail } }) ∧
    (x.source = .origination → isCounted x.frame = true → isBallot x.frame = false →
      exec .frameDeparture s = .next { s with
        down := lane
        fh := { s.fh with inSend := none, origination := origination, outstanding := raised } }) ∧
    (∀ b, x.source = .origination → x.frame.body = .ballot b → s.undamaged →
      (∀ i r, s.record i = some r → r.kind = .own → r.state = .pending →
        r.identity.epoch = x.frame.epoch → r.identity.count = b.count → r.issue = b.issue →
        r.mainTimer = none →
        (∀ j q, j < i → s.record j = some q → ¬ (q.kind = .own ∧ q.state = .pending ∧
          q.identity.epoch = x.frame.epoch ∧ q.identity.count = b.count ∧ q.issue = b.issue ∧
          q.mainTimer = none)) →
        exec .frameDeparture s = .next (writeRecord i
          { r with mainTimer := some (BitVec.ofNat 16 s.ctl.config.ballotLimit.toNat) }
          { s with
            down := lane
            fh := { s.fh with inSend := none, origination := origination, outstanding := raised } })) ∧
      ((∀ j q, s.record j = some q → ¬ (q.kind = .own ∧ q.state = .pending ∧
          q.identity.epoch = x.frame.epoch ∧ q.identity.count = b.count ∧ q.issue = b.issue ∧
          q.mainTimer = none)) →
        exec .frameDeparture s = .next { s with
          down := lane
          fh := { s.fh with inSend := none, origination := origination, outstanding := raised } })) ∧
    (x.source = .origination → isCounted x.frame = false →
      ∃ retry, exec .frameDeparture s = .next { s with
          down := lane
          fh := { s.fh with inSend := none, origination := origination }
          census := { s.census with retryTimer := retry } } ∧
        (isCensus x.frame = true → some (censusKey x.frame) = s.census.bestKey →
          formingOrIsolated s.ctl.state = true → s.census.censusDue = false → retry = some 10) ∧
        (isCensus x.frame = false ∨ some (censusKey x.frame) ≠ s.census.bestKey →
          retry = s.census.retryTimer))

/-! ### What every step keeps -/

/-- The reset state meets every invariant below. -/
def Obligations.ResetMeetsInvariants : Prop :=
  InBounds State.reset ∧ State.reset.undamaged ∧ LinksFit State.reset ∧ QueuesFit State.reset ∧
    RecordsFit State.reset ∧ UnitsFit State.reset ∧ EpochFit State.reset ∧ BallotsFit State.reset ∧
    GrantsApart State.reset

/-- R12, R18, R28, R102, R104, R112, R123, R129, R162, R168, R172, R175, R178: queues, counts and indexes stay in their bounds, the record that a READ_RESULT shows stays at the head, and no command makes a slot
disagree with its check value (notes/assumptions/4.md). -/
def Obligations.BoundsKept : Prop :=
  ∀ s t : State, Sys2Proof.Machine.step s = .next t → (InBounds s → InBounds t) ∧ (s.undamaged → t.undamaged)

/-- R95 to R102, R105, R109, R110: the ports, their locks and their credit, BYPASSN and the station state stay in agreement. -/
def Obligations.LinksKept : Prop :=
  ∀ s t : State, LinksFit s → Sys2Proof.Machine.step s = .next t → LinksFit t

/-- R63, R64, R113, R114, R128, R130: the transit queue keeps its order, a frame is in hand between events exactly while a scan runs, and a
frame in send is the oldest of its queue. -/
def Obligations.QueueOrderKept : Prop :=
  ∀ s t : State, LinksFit s → QueuesFit s → Sys2Proof.Machine.step s = .next t → QueuesFit t

/-- R14 to R16, R21, R25, R26, R62, R94: every record keeps the marks, timers and causes that its kind and state may carry, and stands in a
state that the station state admits. -/
def Obligations.RecordsKept : Prop :=
  ∀ s t : State, RecordsFit s → Sys2Proof.Machine.step s = .next t → RecordsFit t

/-- R78, R91, R94, R143 to R145, R147, R158, R160, R163: the fence, the station-level dues, the timers, the leave outcome and the halt cause stand only in the
station states that have them, and while RESETN is held low every item has its reset value. -/
def Obligations.UnitsKept : Prop :=
  ∀ s t : State, UnitsFit s → Sys2Proof.Machine.step s = .next t → UnitsFit t

/-- R131 to R133, R138, R141: the relation of best key, ROSTER due and epoch is kept, with no best key in UNCONFIGURED, and no command
but a reset lowers the epoch or the best key. -/
def Obligations.EpochNeverDecreases : Prop :=
  (∀ s t : State, EpochFit s → Sys2Proof.Machine.step s = .next t → EpochFit t) ∧
  (∀ (c : Instr) (s t : State), EpochFit s → exec c s = .next t → c ≠ .resetn → (∀ e, c ≠ .stationReset e) →
    s.census.epoch.toNat ≤ t.census.epoch.toNat ∧
    ∀ k, s.census.bestKey = some k → ∃ k', t.census.bestKey = some k' ∧ (k' = k ∨ keyAbove k' k = true))

/-- R37 to R39, R123: a claim's built ballot stays the one ballot of that claim until it has left, and a claim that owes its BALLOT has no
ballot timer. -/
def Obligations.BuiltBallotsKept : Prop :=
  ∀ s t : State, LinksFit s → QueuesFit s → RecordsFit s → EpochFit s → GrantsApart s → BallotsFit s →
    Sys2Proof.Machine.step s = .next t → BallotsFit t

/-- R35, R42, R58: no two own GRANTED records ever conflict: with what is built and what waits, the property is kept by every step. -/
def Obligations.OwnGrantsNeverConflict : Prop :=
  (∀ s t : State, RecordsFit s → EpochFit s → BallotsFit s → GrantsApart s →
    Sys2Proof.Machine.step s = .next t → GrantsApart t) ∧
  (∀ s i j r q, GrantsApart s → i ≠ j → s.record i = some r → s.record j = some q →
    r.kind = .own → q.kind = .own → r.state = .granted → q.state = .granted → ¬ inConflict r q)
end

