-- ==== Sys2Proof/Laws/State.lean ====
section
/-! SUPPORT. What each shared update of State leaves unchanged, one lemma per field. -/

namespace Sys2Proof.Machine

/-! ### The frame in send -/

@[simp] theorem leaveQueue_frame (src : SendSource) (x : InSend) : (leaveQueue src x).frame = x.frame := by
  unfold leaveQueue; split <;> rfl
@[simp] theorem leaveQueue_source (src : SendSource) (x : InSend) : (leaveQueue src x).source = x.source := by
  unfold leaveQueue; split <;> rfl
@[simp] theorem leaveQueue_bytes (src : SendSource) (x : InSend) : (leaveQueue src x).bytes = x.bytes := by
  unfold leaveQueue; split <;> rfl
@[simp] theorem leaveQueue_rebases (src : SendSource) (x : InSend) : (leaveQueue src x).rebases = x.rebases := by
  unfold leaveQueue; split <;> rfl

/-! ### Updates without a condition -/

@[simp] theorem writeRecord_up (i : SlotNo) (r : Record) (s : State) : (writeRecord i r s).up = s.up := rfl
@[simp] theorem writeRecord_down (i : SlotNo) (r : Record) (s : State) : (writeRecord i r s).down = s.down := rfl
@[simp] theorem writeRecord_fh (i : SlotNo) (r : Record) (s : State) : (writeRecord i r s).fh = s.fh := rfl
@[simp] theorem writeRecord_scan (i : SlotNo) (r : Record) (s : State) : (writeRecord i r s).scan = s.scan := rfl
@[simp] theorem writeRecord_clock (i : SlotNo) (r : Record) (s : State) : (writeRecord i r s).clock = s.clock := rfl
@[simp] theorem writeRecord_shadow (i : SlotNo) (r : Record) (s : State) : (writeRecord i r s).shadow = s.shadow := rfl
@[simp] theorem writeRecord_census (i : SlotNo) (r : Record) (s : State) : (writeRecord i r s).census = s.census := rfl
@[simp] theorem writeRecord_ctl (i : SlotNo) (r : Record) (s : State) : (writeRecord i r s).ctl = s.ctl := rfl
@[simp] theorem writeRecord_host (i : SlotNo) (r : Record) (s : State) : (writeRecord i r s).host = s.host := rfl
@[simp] theorem writeRecord_resetn (i : SlotNo) (r : Record) (s : State) : (writeRecord i r s).resetn = s.resetn := rfl
@[simp] theorem writeRecord_pending (i : SlotNo) (r : Record) (s : State) : (writeRecord i r s).pending = s.pending := rfl

@[simp] theorem freeSlot_up (i : SlotNo) (s : State) : (freeSlot i s).up = s.up := rfl
@[simp] theorem freeSlot_down (i : SlotNo) (s : State) : (freeSlot i s).down = s.down := rfl
@[simp] theorem freeSlot_fh (i : SlotNo) (s : State) : (freeSlot i s).fh = s.fh := rfl
@[simp] theorem freeSlot_scan (i : SlotNo) (s : State) : (freeSlot i s).scan = s.scan := rfl
@[simp] theorem freeSlot_clock (i : SlotNo) (s : State) : (freeSlot i s).clock = s.clock := rfl
@[simp] theorem freeSlot_shadow (i : SlotNo) (s : State) : (freeSlot i s).shadow = s.shadow := rfl
@[simp] theorem freeSlot_census (i : SlotNo) (s : State) : (freeSlot i s).census = s.census := rfl
@[simp] theorem freeSlot_ctl (i : SlotNo) (s : State) : (freeSlot i s).ctl = s.ctl := rfl
@[simp] theorem freeSlot_host (i : SlotNo) (s : State) : (freeSlot i s).host = s.host := rfl
@[simp] theorem freeSlot_resetn (i : SlotNo) (s : State) : (freeSlot i s).resetn = s.resetn := rfl
@[simp] theorem freeSlot_pending (i : SlotNo) (s : State) : (freeSlot i s).pending = s.pending := rfl

@[simp] theorem flushOrigination_up (s : State) : (flushOrigination s).up = s.up := rfl
@[simp] theorem flushOrigination_down (s : State) : (flushOrigination s).down = s.down := rfl
@[simp] theorem flushOrigination_fh_transit (s : State) : (flushOrigination s).fh.transit = s.fh.transit := rfl
@[simp] theorem flushOrigination_fh_outstanding (s : State) : (flushOrigination s).fh.outstanding = s.fh.outstanding := rfl
@[simp] theorem flushOrigination_fh_arbiterPos (s : State) : (flushOrigination s).fh.arbiterPos = s.fh.arbiterPos := rfl
@[simp] theorem flushOrigination_table (s : State) : (flushOrigination s).table = s.table := rfl
@[simp] theorem flushOrigination_scan (s : State) : (flushOrigination s).scan = s.scan := rfl
@[simp] theorem flushOrigination_clock (s : State) : (flushOrigination s).clock = s.clock := rfl
@[simp] theorem flushOrigination_shadow (s : State) : (flushOrigination s).shadow = s.shadow := rfl
@[simp] theorem flushOrigination_census (s : State) : (flushOrigination s).census = s.census := rfl
@[simp] theorem flushOrigination_ctl (s : State) : (flushOrigination s).ctl = s.ctl := rfl
@[simp] theorem flushOrigination_host (s : State) : (flushOrigination s).host = s.host := rfl
@[simp] theorem flushOrigination_resetn (s : State) : (flushOrigination s).resetn = s.resetn := rfl
@[simp] theorem flushOrigination_pending (s : State) : (flushOrigination s).pending = s.pending := rfl

@[simp] theorem readyHand_up (f : Frame) (s : State) : (readyHand f s).up = s.up := rfl
@[simp] theorem readyHand_down (f : Frame) (s : State) : (readyHand f s).down = s.down := rfl
@[simp] theorem readyHand_fh_origination (f : Frame) (s : State) : (readyHand f s).fh.origination = s.fh.origination := rfl
@[simp] theorem readyHand_fh_inSend (f : Frame) (s : State) : (readyHand f s).fh.inSend = s.fh.inSend := rfl
@[simp] theorem readyHand_fh_outstanding (f : Frame) (s : State) : (readyHand f s).fh.outstanding = s.fh.outstanding := rfl
@[simp] theorem readyHand_fh_arbiterPos (f : Frame) (s : State) : (readyHand f s).fh.arbiterPos = s.fh.arbiterPos := rfl
@[simp] theorem readyHand_table (f : Frame) (s : State) : (readyHand f s).table = s.table := rfl
@[simp] theorem readyHand_scan (f : Frame) (s : State) : (readyHand f s).scan = s.scan := rfl
@[simp] theorem readyHand_clock (f : Frame) (s : State) : (readyHand f s).clock = s.clock := rfl
@[simp] theorem readyHand_shadow (f : Frame) (s : State) : (readyHand f s).shadow = s.shadow := rfl
@[simp] theorem readyHand_census (f : Frame) (s : State) : (readyHand f s).census = s.census := rfl
@[simp] theorem readyHand_ctl (f : Frame) (s : State) : (readyHand f s).ctl = s.ctl := rfl
@[simp] theorem readyHand_host (f : Frame) (s : State) : (readyHand f s).host = s.host := rfl
@[simp] theorem readyHand_resetn (f : Frame) (s : State) : (readyHand f s).resetn = s.resetn := rfl
@[simp] theorem readyHand_pending (f : Frame) (s : State) : (readyHand f s).pending = s.pending := rfl

@[simp] theorem markState_up (n : StateNotice) (s : State) : (markState n s).up = s.up := rfl
@[simp] theorem markState_down (n : StateNotice) (s : State) : (markState n s).down = s.down := rfl
@[simp] theorem markState_fh (n : StateNotice) (s : State) : (markState n s).fh = s.fh := rfl
@[simp] theorem markState_table (n : StateNotice) (s : State) : (markState n s).table = s.table := rfl
@[simp] theorem markState_scan (n : StateNotice) (s : State) : (markState n s).scan = s.scan := rfl
@[simp] theorem markState_clock (n : StateNotice) (s : State) : (markState n s).clock = s.clock := rfl
@[simp] theorem markState_shadow (n : StateNotice) (s : State) : (markState n s).shadow = s.shadow := rfl
@[simp] theorem markState_census (n : StateNotice) (s : State) : (markState n s).census = s.census := rfl
@[simp] theorem markState_ctl_state (n : StateNotice) (s : State) : (markState n s).ctl.state = s.ctl.state := rfl
@[simp] theorem markState_ctl_configured (n : StateNotice) (s : State) : (markState n s).ctl.configured = s.ctl.configured := rfl
@[simp] theorem markState_ctl_config (n : StateNotice) (s : State) : (markState n s).ctl.config = s.ctl.config := rfl
@[simp] theorem markState_ctl_leaveTimer (n : StateNotice) (s : State) : (markState n s).ctl.leaveTimer = s.ctl.leaveTimer := rfl
@[simp] theorem markState_ctl_leaveOutcome (n : StateNotice) (s : State) : (markState n s).ctl.leaveOutcome = s.ctl.leaveOutcome := rfl
@[simp] theorem markState_ctl_haltCause (n : StateNotice) (s : State) : (markState n s).ctl.haltCause = s.ctl.haltCause := rfl
@[simp] theorem markState_ctl_faultMark (n : StateNotice) (s : State) : (markState n s).ctl.faultMark = s.ctl.faultMark := rfl
@[simp] theorem markState_ctl_bypassn (n : StateNotice) (s : State) : (markState n s).ctl.bypassn = s.ctl.bypassn := rfl
@[simp] theorem markState_ctl_tickCounter (n : StateNotice) (s : State) : (markState n s).ctl.tickCounter = s.ctl.tickCounter := rfl
@[simp] theorem markState_host (n : StateNotice) (s : State) : (markState n s).host = s.host := rfl
@[simp] theorem markState_resetn (n : StateNotice) (s : State) : (markState n s).resetn = s.resetn := rfl
@[simp] theorem markState_pending (n : StateNotice) (s : State) : (markState n s).pending = s.pending := rfl

@[simp] theorem markStateNow_up (st : StationState) (o : Option LeaveOutcome) (s : State) : (markStateNow st o s).up = s.up := rfl
@[simp] theorem markStateNow_down (st : StationState) (o : Option LeaveOutcome) (s : State) : (markStateNow st o s).down = s.down := rfl
@[simp] theorem markStateNow_fh (st : StationState) (o : Option LeaveOutcome) (s : State) : (markStateNow st o s).fh = s.fh := rfl
@[simp] theorem markStateNow_table (st : StationState) (o : Option LeaveOutcome) (s : State) : (markStateNow st o s).table = s.table := rfl
@[simp] theorem markStateNow_scan (st : StationState) (o : Option LeaveOutcome) (s : State) : (markStateNow st o s).scan = s.scan := rfl
@[simp] theorem markStateNow_clock (st : StationState) (o : Option LeaveOutcome) (s : State) : (markStateNow st o s).clock = s.clock := rfl
@[simp] theorem markStateNow_shadow (st : StationState) (o : Option LeaveOutcome) (s : State) : (markStateNow st o s).shadow = s.shadow := rfl
@[simp] theorem markStateNow_census (st : StationState) (o : Option LeaveOutcome) (s : State) : (markStateNow st o s).census = s.census := rfl
@[simp] theorem markStateNow_ctl_state (st : StationState) (o : Option LeaveOutcome) (s : State) : (markStateNow st o s).ctl.state = s.ctl.state := rfl
@[simp] theorem markStateNow_ctl_configured (st : StationState) (o : Option LeaveOutcome) (s : State) : (markStateNow st o s).ctl.configured = s.ctl.configured := rfl
@[simp] theorem markStateNow_ctl_config (st : StationState) (o : Option LeaveOutcome) (s : State) : (markStateNow st o s).ctl.config = s.ctl.config := rfl
@[simp] theorem markStateNow_ctl_leaveTimer (st : StationState) (o : Option LeaveOutcome) (s : State) : (markStateNow st o s).ctl.leaveTimer = s.ctl.leaveTimer := rfl
@[simp] theorem markStateNow_ctl_leaveOutcome (st : StationState) (o : Option LeaveOutcome) (s : State) : (markStateNow st o s).ctl.leaveOutcome = s.ctl.leaveOutcome := rfl
@[simp] theorem markStateNow_ctl_haltCause (st : StationState) (o : Option LeaveOutcome) (s : State) : (markStateNow st o s).ctl.haltCause = s.ctl.haltCause := rfl
@[simp] theorem markStateNow_ctl_faultMark (st : StationState) (o : Option LeaveOutcome) (s : State) : (markStateNow st o s).ctl.faultMark = s.ctl.faultMark := rfl
@[simp] theorem markStateNow_ctl_bypassn (st : StationState) (o : Option LeaveOutcome) (s : State) : (markStateNow st o s).ctl.bypassn = s.ctl.bypassn := rfl
@[simp] theorem markStateNow_ctl_tickCounter (st : StationState) (o : Option LeaveOutcome) (s : State) : (markStateNow st o s).ctl.tickCounter = s.ctl.tickCounter := rfl
@[simp] theorem markStateNow_host (st : StationState) (o : Option LeaveOutcome) (s : State) : (markStateNow st o s).host = s.host := rfl
@[simp] theorem markStateNow_resetn (st : StationState) (o : Option LeaveOutcome) (s : State) : (markStateNow st o s).resetn = s.resetn := rfl
@[simp] theorem markStateNow_pending (st : StationState) (o : Option LeaveOutcome) (s : State) : (markStateNow st o s).pending = s.pending := rfl

@[simp] theorem markFault_up (c : FaultCause) (s : State) : (markFault c s).up = s.up := rfl
@[simp] theorem markFault_down (c : FaultCause) (s : State) : (markFault c s).down = s.down := rfl
@[simp] theorem markFault_fh (c : FaultCause) (s : State) : (markFault c s).fh = s.fh := rfl
@[simp] theorem markFault_table (c : FaultCause) (s : State) : (markFault c s).table = s.table := rfl
@[simp] theorem markFault_scan (c : FaultCause) (s : State) : (markFault c s).scan = s.scan := rfl
@[simp] theorem markFault_clock (c : FaultCause) (s : State) : (markFault c s).clock = s.clock := rfl
@[simp] theorem markFault_shadow (c : FaultCause) (s : State) : (markFault c s).shadow = s.shadow := rfl
@[simp] theorem markFault_census (c : FaultCause) (s : State) : (markFault c s).census = s.census := rfl
@[simp] theorem markFault_ctl_state (c : FaultCause) (s : State) : (markFault c s).ctl.state = s.ctl.state := rfl
@[simp] theorem markFault_ctl_configured (c : FaultCause) (s : State) : (markFault c s).ctl.configured = s.ctl.configured := rfl
@[simp] theorem markFault_ctl_config (c : FaultCause) (s : State) : (markFault c s).ctl.config = s.ctl.config := rfl
@[simp] theorem markFault_ctl_leaveTimer (c : FaultCause) (s : State) : (markFault c s).ctl.leaveTimer = s.ctl.leaveTimer := rfl
@[simp] theorem markFault_ctl_leaveOutcome (c : FaultCause) (s : State) : (markFault c s).ctl.leaveOutcome = s.ctl.leaveOutcome := rfl
@[simp] theorem markFault_ctl_haltCause (c : FaultCause) (s : State) : (markFault c s).ctl.haltCause = s.ctl.haltCause := rfl
@[simp] theorem markFault_ctl_stateMark (c : FaultCause) (s : State) : (markFault c s).ctl.stateMark = s.ctl.stateMark := rfl
@[simp] theorem markFault_ctl_bypassn (c : FaultCause) (s : State) : (markFault c s).ctl.bypassn = s.ctl.bypassn := rfl
@[simp] theorem markFault_ctl_tickCounter (c : FaultCause) (s : State) : (markFault c s).ctl.tickCounter = s.ctl.tickCounter := rfl
@[simp] theorem markFault_host (c : FaultCause) (s : State) : (markFault c s).host = s.host := rfl
@[simp] theorem markFault_resetn (c : FaultCause) (s : State) : (markFault c s).resetn = s.resetn := rfl
@[simp] theorem markFault_pending (c : FaultCause) (s : State) : (markFault c s).pending = s.pending := rfl

@[simp] theorem clearShadowUnit_up (s : State) : (clearShadowUnit s).up = s.up := rfl
@[simp] theorem clearShadowUnit_down (s : State) : (clearShadowUnit s).down = s.down := rfl
@[simp] theorem clearShadowUnit_fh (s : State) : (clearShadowUnit s).fh = s.fh := rfl
@[simp] theorem clearShadowUnit_table (s : State) : (clearShadowUnit s).table = s.table := rfl
@[simp] theorem clearShadowUnit_scan (s : State) : (clearShadowUnit s).scan = s.scan := rfl
@[simp] theorem clearShadowUnit_clock (s : State) : (clearShadowUnit s).clock = s.clock := rfl
@[simp] theorem clearShadowUnit_census (s : State) : (clearShadowUnit s).census = s.census := rfl
@[simp] theorem clearShadowUnit_ctl (s : State) : (clearShadowUnit s).ctl = s.ctl := rfl
@[simp] theorem clearShadowUnit_host (s : State) : (clearShadowUnit s).host = s.host := rfl
@[simp] theorem clearShadowUnit_resetn (s : State) : (clearShadowUnit s).resetn = s.resetn := rfl
@[simp] theorem clearShadowUnit_pending (s : State) : (clearShadowUnit s).pending = s.pending := rfl

@[simp] theorem stopCensus_up (s : State) : (stopCensus s).up = s.up := rfl
@[simp] theorem stopCensus_down (s : State) : (stopCensus s).down = s.down := rfl
@[simp] theorem stopCensus_fh (s : State) : (stopCensus s).fh = s.fh := rfl
@[simp] theorem stopCensus_table (s : State) : (stopCensus s).table = s.table := rfl
@[simp] theorem stopCensus_scan (s : State) : (stopCensus s).scan = s.scan := rfl
@[simp] theorem stopCensus_clock (s : State) : (stopCensus s).clock = s.clock := rfl
@[simp] theorem stopCensus_shadow (s : State) : (stopCensus s).shadow = s.shadow := rfl
@[simp] theorem stopCensus_census_epoch (s : State) : (stopCensus s).census.epoch = s.census.epoch := rfl
@[simp] theorem stopCensus_census_roster (s : State) : (stopCensus s).census.roster = s.census.roster := rfl
@[simp] theorem stopCensus_census_previousRoster (s : State) : (stopCensus s).census.previousRoster = s.census.previousRoster := rfl
@[simp] theorem stopCensus_census_bestKey (s : State) : (stopCensus s).census.bestKey = s.census.bestKey := rfl
@[simp] theorem stopCensus_ctl (s : State) : (stopCensus s).ctl = s.ctl := rfl
@[simp] theorem stopCensus_host (s : State) : (stopCensus s).host = s.host := rfl
@[simp] theorem stopCensus_resetn (s : State) : (stopCensus s).resetn = s.resetn := rfl
@[simp] theorem stopCensus_pending (s : State) : (stopCensus s).pending = s.pending := rfl

@[simp] theorem proposeEpoch_up (e : Word32) (s : State) : (proposeEpoch e s).up = s.up := rfl
@[simp] theorem proposeEpoch_down (e : Word32) (s : State) : (proposeEpoch e s).down = s.down := rfl
@[simp] theorem proposeEpoch_fh (e : Word32) (s : State) : (proposeEpoch e s).fh = s.fh := rfl
@[simp] theorem proposeEpoch_table (e : Word32) (s : State) : (proposeEpoch e s).table = s.table := rfl
@[simp] theorem proposeEpoch_scan (e : Word32) (s : State) : (proposeEpoch e s).scan = s.scan := rfl
@[simp] theorem proposeEpoch_clock (e : Word32) (s : State) : (proposeEpoch e s).clock = s.clock := rfl
@[simp] theorem proposeEpoch_shadow (e : Word32) (s : State) : (proposeEpoch e s).shadow = s.shadow := rfl
@[simp] theorem proposeEpoch_census_epoch (e : Word32) (s : State) : (proposeEpoch e s).census.epoch = s.census.epoch := rfl
@[simp] theorem proposeEpoch_census_roster (e : Word32) (s : State) : (proposeEpoch e s).census.roster = s.census.roster := rfl
@[simp] theorem proposeEpoch_census_previousRoster (e : Word32) (s : State) : (proposeEpoch e s).census.previousRoster = s.census.previousRoster := rfl
@[simp] theorem proposeEpoch_census_formationTimer (e : Word32) (s : State) : (proposeEpoch e s).census.formationTimer = s.census.formationTimer := rfl
@[simp] theorem proposeEpoch_ctl (e : Word32) (s : State) : (proposeEpoch e s).ctl = s.ctl := rfl
@[simp] theorem proposeEpoch_host (e : Word32) (s : State) : (proposeEpoch e s).host = s.host := rfl
@[simp] theorem proposeEpoch_resetn (e : Word32) (s : State) : (proposeEpoch e s).resetn = s.resetn := rfl
@[simp] theorem proposeEpoch_pending (e : Word32) (s : State) : (proposeEpoch e s).pending = s.pending := rfl

@[simp] theorem restoreCensusDues_up (s : State) : (restoreCensusDues s).up = s.up := rfl
@[simp] theorem restoreCensusDues_down (s : State) : (restoreCensusDues s).down = s.down := rfl
@[simp] theorem restoreCensusDues_fh (s : State) : (restoreCensusDues s).fh = s.fh := rfl
@[simp] theorem restoreCensusDues_table (s : State) : (restoreCensusDues s).table = s.table := rfl
@[simp] theorem restoreCensusDues_scan (s : State) : (restoreCensusDues s).scan = s.scan := rfl
@[simp] theorem restoreCensusDues_clock (s : State) : (restoreCensusDues s).clock = s.clock := rfl
@[simp] theorem restoreCensusDues_shadow (s : State) : (restoreCensusDues s).shadow = s.shadow := rfl
@[simp] theorem restoreCensusDues_census_epoch (s : State) : (restoreCensusDues s).census.epoch = s.census.epoch := rfl
@[simp] theorem restoreCensusDues_census_roster (s : State) : (restoreCensusDues s).census.roster = s.census.roster := rfl
@[simp] theorem restoreCensusDues_census_previousRoster (s : State) : (restoreCensusDues s).census.previousRoster = s.census.previousRoster := rfl
@[simp] theorem restoreCensusDues_census_bestKey (s : State) : (restoreCensusDues s).census.bestKey = s.census.bestKey := rfl
@[simp] theorem restoreCensusDues_census_retryTimer (s : State) : (restoreCensusDues s).census.retryTimer = s.census.retryTimer := rfl
@[simp] theorem restoreCensusDues_census_formationTimer (s : State) : (restoreCensusDues s).census.formationTimer = s.census.formationTimer := rfl
@[simp] theorem restoreCensusDues_ctl (s : State) : (restoreCensusDues s).ctl = s.ctl := rfl
@[simp] theorem restoreCensusDues_host (s : State) : (restoreCensusDues s).host = s.host := rfl
@[simp] theorem restoreCensusDues_resetn (s : State) : (restoreCensusDues s).resetn = s.resetn := rfl
@[simp] theorem restoreCensusDues_pending (s : State) : (restoreCensusDues s).pending = s.pending := rfl

@[simp] theorem decideFence_up (s : State) : (decideFence s).up = s.up := rfl
@[simp] theorem decideFence_down (s : State) : (decideFence s).down = s.down := rfl
@[simp] theorem decideFence_fh (s : State) : (decideFence s).fh = s.fh := rfl
@[simp] theorem decideFence_table (s : State) : (decideFence s).table = s.table := rfl
@[simp] theorem decideFence_scan (s : State) : (decideFence s).scan = s.scan := rfl
@[simp] theorem decideFence_clock (s : State) : (decideFence s).clock = s.clock := rfl
@[simp] theorem decideFence_shadow_fenceObjected (s : State) : (decideFence s).shadow.fenceObjected = s.shadow.fenceObjected := rfl
@[simp] theorem decideFence_shadow_fenceEndDue (s : State) : (decideFence s).shadow.fenceEndDue = s.shadow.fenceEndDue := rfl
@[simp] theorem decideFence_census (s : State) : (decideFence s).census = s.census := rfl
@[simp] theorem decideFence_ctl (s : State) : (decideFence s).ctl = s.ctl := rfl
@[simp] theorem decideFence_host (s : State) : (decideFence s).host = s.host := rfl
@[simp] theorem decideFence_resetn (s : State) : (decideFence s).resetn = s.resetn := rfl
@[simp] theorem decideFence_pending (s : State) : (decideFence s).pending = s.pending := rfl

@[simp] theorem adoptBase_up (e : Word32) (l : List StationId) (s : State) : (adoptBase e l s).up = s.up := rfl
@[simp] theorem adoptBase_down (e : Word32) (l : List StationId) (s : State) : (adoptBase e l s).down = s.down := rfl
@[simp] theorem adoptBase_fh_transit (e : Word32) (l : List StationId) (s : State) : (adoptBase e l s).fh.transit = s.fh.transit := rfl
@[simp] theorem adoptBase_fh_arbiterPos (e : Word32) (l : List StationId) (s : State) : (adoptBase e l s).fh.arbiterPos = s.fh.arbiterPos := rfl
@[simp] theorem adoptBase_table (e : Word32) (l : List StationId) (s : State) : (adoptBase e l s).table = s.table := rfl
@[simp] theorem adoptBase_scan (e : Word32) (l : List StationId) (s : State) : (adoptBase e l s).scan = s.scan := rfl
@[simp] theorem adoptBase_shadow (e : Word32) (l : List StationId) (s : State) : (adoptBase e l s).shadow = s.shadow := rfl
@[simp] theorem adoptBase_census_bestKey (e : Word32) (l : List StationId) (s : State) : (adoptBase e l s).census.bestKey = s.census.bestKey := rfl
@[simp] theorem adoptBase_ctl_configured (e : Word32) (l : List StationId) (s : State) : (adoptBase e l s).ctl.configured = s.ctl.configured := rfl
@[simp] theorem adoptBase_ctl_config (e : Word32) (l : List StationId) (s : State) : (adoptBase e l s).ctl.config = s.ctl.config := rfl
@[simp] theorem adoptBase_ctl_leaveTimer (e : Word32) (l : List StationId) (s : State) : (adoptBase e l s).ctl.leaveTimer = s.ctl.leaveTimer := rfl
@[simp] theorem adoptBase_ctl_leaveOutcome (e : Word32) (l : List StationId) (s : State) : (adoptBase e l s).ctl.leaveOutcome = s.ctl.leaveOutcome := rfl
@[simp] theorem adoptBase_ctl_haltCause (e : Word32) (l : List StationId) (s : State) : (adoptBase e l s).ctl.haltCause = s.ctl.haltCause := rfl
@[simp] theorem adoptBase_ctl_stateMark (e : Word32) (l : List StationId) (s : State) : (adoptBase e l s).ctl.stateMark = s.ctl.stateMark := rfl
@[simp] theorem adoptBase_ctl_faultMark (e : Word32) (l : List StationId) (s : State) : (adoptBase e l s).ctl.faultMark = s.ctl.faultMark := rfl
@[simp] theorem adoptBase_ctl_bypassn (e : Word32) (l : List StationId) (s : State) : (adoptBase e l s).ctl.bypassn = s.ctl.bypassn := rfl
@[simp] theorem adoptBase_ctl_tickCounter (e : Word32) (l : List StationId) (s : State) : (adoptBase e l s).ctl.tickCounter = s.ctl.tickCounter := rfl
@[simp] theorem adoptBase_host (e : Word32) (l : List StationId) (s : State) : (adoptBase e l s).host = s.host := rfl
@[simp] theorem adoptBase_resetn (e : Word32) (l : List StationId) (s : State) : (adoptBase e l s).resetn = s.resetn := rfl
@[simp] theorem adoptBase_pending (e : Word32) (l : List StationId) (s : State) : (adoptBase e l s).pending = s.pending := rfl

@[simp] theorem trainUpstream_up_receiveLock (s : State) : (trainUpstream s).up.receiveLock = s.up.receiveLock := rfl
@[simp] theorem trainUpstream_up_farLock (s : State) : (trainUpstream s).up.farLock = s.up.farLock := rfl
@[simp] theorem trainUpstream_up_badRun (s : State) : (trainUpstream s).up.badRun = s.up.badRun := rfl
@[simp] theorem trainUpstream_up_sent (s : State) : (trainUpstream s).up.sent = s.up.sent := rfl
@[simp] theorem trainUpstream_down (s : State) : (trainUpstream s).down = s.down := rfl
@[simp] theorem trainUpstream_fh (s : State) : (trainUpstream s).fh = s.fh := rfl
@[simp] theorem trainUpstream_table (s : State) : (trainUpstream s).table = s.table := rfl
@[simp] theorem trainUpstream_scan (s : State) : (trainUpstream s).scan = s.scan := rfl
@[simp] theorem trainUpstream_clock (s : State) : (trainUpstream s).clock = s.clock := rfl
@[simp] theorem trainUpstream_shadow (s : State) : (trainUpstream s).shadow = s.shadow := rfl
@[simp] theorem trainUpstream_census (s : State) : (trainUpstream s).census = s.census := rfl
@[simp] theorem trainUpstream_ctl (s : State) : (trainUpstream s).ctl = s.ctl := rfl
@[simp] theorem trainUpstream_host (s : State) : (trainUpstream s).host = s.host := rfl
@[simp] theorem trainUpstream_resetn (s : State) : (trainUpstream s).resetn = s.resetn := rfl
@[simp] theorem trainUpstream_pending (s : State) : (trainUpstream s).pending = s.pending := rfl

@[simp] theorem enqueue_up (f : Frame) (s : State) : (enqueue f s).up = s.up := rfl
@[simp] theorem enqueue_down (f : Frame) (s : State) : (enqueue f s).down = s.down := rfl
@[simp] theorem enqueue_fh_transit (f : Frame) (s : State) : (enqueue f s).fh.transit = s.fh.transit := rfl
@[simp] theorem enqueue_fh_inSend (f : Frame) (s : State) : (enqueue f s).fh.inSend = s.fh.inSend := rfl
@[simp] theorem enqueue_fh_outstanding (f : Frame) (s : State) : (enqueue f s).fh.outstanding = s.fh.outstanding := rfl
@[simp] theorem enqueue_fh_arbiterPos (f : Frame) (s : State) : (enqueue f s).fh.arbiterPos = s.fh.arbiterPos := rfl
@[simp] theorem enqueue_table (f : Frame) (s : State) : (enqueue f s).table = s.table := rfl
@[simp] theorem enqueue_scan (f : Frame) (s : State) : (enqueue f s).scan = s.scan := rfl
@[simp] theorem enqueue_clock (f : Frame) (s : State) : (enqueue f s).clock = s.clock := rfl
@[simp] theorem enqueue_shadow (f : Frame) (s : State) : (enqueue f s).shadow = s.shadow := rfl
@[simp] theorem enqueue_census (f : Frame) (s : State) : (enqueue f s).census = s.census := rfl
@[simp] theorem enqueue_ctl (f : Frame) (s : State) : (enqueue f s).ctl = s.ctl := rfl
@[simp] theorem enqueue_host (f : Frame) (s : State) : (enqueue f s).host = s.host := rfl
@[simp] theorem enqueue_resetn (f : Frame) (s : State) : (enqueue f s).resetn = s.resetn := rfl
@[simp] theorem enqueue_pending (f : Frame) (s : State) : (enqueue f s).pending = s.pending := rfl

@[simp] theorem beginSend_up (f : Frame) (x : SendSource) (n : Nat) (s : State) : (beginSend f x n s).up = s.up := rfl
@[simp] theorem beginSend_down (f : Frame) (x : SendSource) (n : Nat) (s : State) : (beginSend f x n s).down = s.down := rfl
@[simp] theorem beginSend_fh_transit (f : Frame) (x : SendSource) (n : Nat) (s : State) : (beginSend f x n s).fh.transit = s.fh.transit := rfl
@[simp] theorem beginSend_fh_origination (f : Frame) (x : SendSource) (n : Nat) (s : State) : (beginSend f x n s).fh.origination = s.fh.origination := rfl
@[simp] theorem beginSend_fh_outstanding (f : Frame) (x : SendSource) (n : Nat) (s : State) : (beginSend f x n s).fh.outstanding = s.fh.outstanding := rfl
@[simp] theorem beginSend_table (f : Frame) (x : SendSource) (n : Nat) (s : State) : (beginSend f x n s).table = s.table := rfl
@[simp] theorem beginSend_scan (f : Frame) (x : SendSource) (n : Nat) (s : State) : (beginSend f x n s).scan = s.scan := rfl
@[simp] theorem beginSend_clock (f : Frame) (x : SendSource) (n : Nat) (s : State) : (beginSend f x n s).clock = s.clock := rfl
@[simp] theorem beginSend_shadow (f : Frame) (x : SendSource) (n : Nat) (s : State) : (beginSend f x n s).shadow = s.shadow := rfl
@[simp] theorem beginSend_census (f : Frame) (x : SendSource) (n : Nat) (s : State) : (beginSend f x n s).census = s.census := rfl
@[simp] theorem beginSend_ctl (f : Frame) (x : SendSource) (n : Nat) (s : State) : (beginSend f x n s).ctl = s.ctl := rfl
@[simp] theorem beginSend_host (f : Frame) (x : SendSource) (n : Nat) (s : State) : (beginSend f x n s).host = s.host := rfl
@[simp] theorem beginSend_resetn (f : Frame) (x : SendSource) (n : Nat) (s : State) : (beginSend f x n s).resetn = s.resetn := rfl
@[simp] theorem beginSend_pending (f : Frame) (x : SendSource) (n : Nat) (s : State) : (beginSend f x n s).pending = s.pending := rfl

@[simp] theorem countDeparture_up (s : State) : (countDeparture s).up = s.up := rfl
@[simp] theorem countDeparture_down (s : State) : (countDeparture s).down = s.down := rfl
@[simp] theorem countDeparture_fh_transit (s : State) : (countDeparture s).fh.transit = s.fh.transit := rfl
@[simp] theorem countDeparture_fh_origination (s : State) : (countDeparture s).fh.origination = s.fh.origination := rfl
@[simp] theorem countDeparture_fh_inSend (s : State) : (countDeparture s).fh.inSend = s.fh.inSend := rfl
@[simp] theorem countDeparture_fh_arbiterPos (s : State) : (countDeparture s).fh.arbiterPos = s.fh.arbiterPos := rfl
@[simp] theorem countDeparture_table (s : State) : (countDeparture s).table = s.table := rfl
@[simp] theorem countDeparture_scan (s : State) : (countDeparture s).scan = s.scan := rfl
@[simp] theorem countDeparture_clock (s : State) : (countDeparture s).clock = s.clock := rfl
@[simp] theorem countDeparture_shadow (s : State) : (countDeparture s).shadow = s.shadow := rfl
@[simp] theorem countDeparture_census (s : State) : (countDeparture s).census = s.census := rfl
@[simp] theorem countDeparture_ctl (s : State) : (countDeparture s).ctl = s.ctl := rfl
@[simp] theorem countDeparture_host (s : State) : (countDeparture s).host = s.host := rfl
@[simp] theorem countDeparture_resetn (s : State) : (countDeparture s).resetn = s.resetn := rfl
@[simp] theorem countDeparture_pending (s : State) : (countDeparture s).pending = s.pending := rfl

@[simp] theorem chargeCredit_up (x : InSend) (s : State) : (chargeCredit x s).up = s.up := rfl
@[simp] theorem chargeCredit_down_link (x : InSend) (s : State) : (chargeCredit x s).down.link = s.down.link := rfl
@[simp] theorem chargeCredit_down_receiveLock (x : InSend) (s : State) : (chargeCredit x s).down.receiveLock = s.down.receiveLock := rfl
@[simp] theorem chargeCredit_down_farLock (x : InSend) (s : State) : (chargeCredit x s).down.farLock = s.down.farLock := rfl
@[simp] theorem chargeCredit_fh (x : InSend) (s : State) : (chargeCredit x s).fh = s.fh := rfl
@[simp] theorem chargeCredit_table (x : InSend) (s : State) : (chargeCredit x s).table = s.table := rfl
@[simp] theorem chargeCredit_scan (x : InSend) (s : State) : (chargeCredit x s).scan = s.scan := rfl
@[simp] theorem chargeCredit_clock (x : InSend) (s : State) : (chargeCredit x s).clock = s.clock := rfl
@[simp] theorem chargeCredit_shadow (x : InSend) (s : State) : (chargeCredit x s).shadow = s.shadow := rfl
@[simp] theorem chargeCredit_census (x : InSend) (s : State) : (chargeCredit x s).census = s.census := rfl
@[simp] theorem chargeCredit_ctl (x : InSend) (s : State) : (chargeCredit x s).ctl = s.ctl := rfl
@[simp] theorem chargeCredit_host (x : InSend) (s : State) : (chargeCredit x s).host = s.host := rfl
@[simp] theorem chargeCredit_resetn (x : InSend) (s : State) : (chargeCredit x s).resetn = s.resetn := rfl
@[simp] theorem chargeCredit_pending (x : InSend) (s : State) : (chargeCredit x s).pending = s.pending := rfl

@[simp] theorem setIncomplete_up (s : State) : (setIncomplete s).up = s.up := rfl
@[simp] theorem setIncomplete_down (s : State) : (setIncomplete s).down = s.down := rfl
@[simp] theorem setIncomplete_fh (s : State) : (setIncomplete s).fh = s.fh := rfl
@[simp] theorem setIncomplete_table (s : State) : (setIncomplete s).table = s.table := rfl
@[simp] theorem setIncomplete_scan (s : State) : (setIncomplete s).scan = s.scan := rfl
@[simp] theorem setIncomplete_clock (s : State) : (setIncomplete s).clock = s.clock := rfl
@[simp] theorem setIncomplete_shadow_fence (s : State) : (setIncomplete s).shadow.fence = s.shadow.fence := rfl
@[simp] theorem setIncomplete_shadow_fenceObjected (s : State) : (setIncomplete s).shadow.fenceObjected = s.shadow.fenceObjected := rfl
@[simp] theorem setIncomplete_shadow_fenceEndDue (s : State) : (setIncomplete s).shadow.fenceEndDue = s.shadow.fenceEndDue := rfl
@[simp] theorem setIncomplete_census (s : State) : (setIncomplete s).census = s.census := rfl
@[simp] theorem setIncomplete_ctl (s : State) : (setIncomplete s).ctl = s.ctl := rfl
@[simp] theorem setIncomplete_host (s : State) : (setIncomplete s).host = s.host := rfl
@[simp] theorem setIncomplete_resetn (s : State) : (setIncomplete s).resetn = s.resetn := rfl
@[simp] theorem setIncomplete_pending (s : State) : (setIncomplete s).pending = s.pending := rfl

@[simp] theorem placeCompletion_up (e : CommandEntry) (c : Completion) (s : State) : (placeCompletion e c s).up = s.up := rfl
@[simp] theorem placeCompletion_down (e : CommandEntry) (c : Completion) (s : State) : (placeCompletion e c s).down = s.down := rfl
@[simp] theorem placeCompletion_fh (e : CommandEntry) (c : Completion) (s : State) : (placeCompletion e c s).fh = s.fh := rfl
@[simp] theorem placeCompletion_table (e : CommandEntry) (c : Completion) (s : State) : (placeCompletion e c s).table = s.table := rfl
@[simp] theorem placeCompletion_scan (e : CommandEntry) (c : Completion) (s : State) : (placeCompletion e c s).scan = s.scan := rfl
@[simp] theorem placeCompletion_clock (e : CommandEntry) (c : Completion) (s : State) : (placeCompletion e c s).clock = s.clock := rfl
@[simp] theorem placeCompletion_shadow (e : CommandEntry) (c : Completion) (s : State) : (placeCompletion e c s).shadow = s.shadow := rfl
@[simp] theorem placeCompletion_census (e : CommandEntry) (c : Completion) (s : State) : (placeCompletion e c s).census = s.census := rfl
@[simp] theorem placeCompletion_ctl (e : CommandEntry) (c : Completion) (s : State) : (placeCompletion e c s).ctl = s.ctl := rfl
@[simp] theorem placeCompletion_host_commands (e : CommandEntry) (c : Completion) (s : State) : (placeCompletion e c s).host.commands = s.host.commands := rfl
@[simp] theorem placeCompletion_host_nextSeq (e : CommandEntry) (c : Completion) (s : State) : (placeCompletion e c s).host.nextSeq = s.host.nextSeq := rfl
@[simp] theorem placeCompletion_host_overrun (e : CommandEntry) (c : Completion) (s : State) : (placeCompletion e c s).host.overrun = s.host.overrun := rfl
@[simp] theorem placeCompletion_host_index (e : CommandEntry) (c : Completion) (s : State) : (placeCompletion e c s).host.index = s.host.index := rfl
@[simp] theorem placeCompletion_host_spi (e : CommandEntry) (c : Completion) (s : State) : (placeCompletion e c s).host.spi = s.host.spi := rfl
@[simp] theorem placeCompletion_host_sdo (e : CommandEntry) (c : Completion) (s : State) : (placeCompletion e c s).host.sdo = s.host.sdo := rfl
@[simp] theorem placeCompletion_resetn (e : CommandEntry) (c : Completion) (s : State) : (placeCompletion e c s).resetn = s.resetn := rfl
@[simp] theorem placeCompletion_pending (e : CommandEntry) (c : Completion) (s : State) : (placeCompletion e c s).pending = s.pending := rfl

@[simp] theorem tickUnits_up (s : State) : (tickUnits s).up = s.up := rfl
@[simp] theorem tickUnits_down (s : State) : (tickUnits s).down = s.down := rfl
@[simp] theorem tickUnits_fh (s : State) : (tickUnits s).fh = s.fh := rfl
@[simp] theorem tickUnits_table (s : State) : (tickUnits s).table = s.table := rfl
@[simp] theorem tickUnits_scan (s : State) : (tickUnits s).scan = s.scan := rfl
@[simp] theorem tickUnits_clock (s : State) : (tickUnits s).clock = s.clock := rfl
@[simp] theorem tickUnits_shadow_incomplete (s : State) : (tickUnits s).shadow.incomplete = s.shadow.incomplete := rfl
@[simp] theorem tickUnits_shadow_fenceObjected (s : State) : (tickUnits s).shadow.fenceObjected = s.shadow.fenceObjected := rfl
@[simp] theorem tickUnits_shadow_fenceEndDue (s : State) : (tickUnits s).shadow.fenceEndDue = s.shadow.fenceEndDue := rfl
@[simp] theorem tickUnits_census_epoch (s : State) : (tickUnits s).census.epoch = s.census.epoch := rfl
@[simp] theorem tickUnits_census_roster (s : State) : (tickUnits s).census.roster = s.census.roster := rfl
@[simp] theorem tickUnits_census_previousRoster (s : State) : (tickUnits s).census.previousRoster = s.census.previousRoster := rfl
@[simp] theorem tickUnits_census_bestKey (s : State) : (tickUnits s).census.bestKey = s.census.bestKey := rfl
@[simp] theorem tickUnits_census_censusDue (s : State) : (tickUnits s).census.censusDue = s.census.censusDue := rfl
@[simp] theorem tickUnits_census_rosterDue (s : State) : (tickUnits s).census.rosterDue = s.census.rosterDue := rfl
@[simp] theorem tickUnits_ctl_state (s : State) : (tickUnits s).ctl.state = s.ctl.state := rfl
@[simp] theorem tickUnits_ctl_configured (s : State) : (tickUnits s).ctl.configured = s.ctl.configured := rfl
@[simp] theorem tickUnits_ctl_config (s : State) : (tickUnits s).ctl.config = s.ctl.config := rfl
@[simp] theorem tickUnits_ctl_leaveOutcome (s : State) : (tickUnits s).ctl.leaveOutcome = s.ctl.leaveOutcome := rfl
@[simp] theorem tickUnits_ctl_haltCause (s : State) : (tickUnits s).ctl.haltCause = s.ctl.haltCause := rfl
@[simp] theorem tickUnits_ctl_stateMark (s : State) : (tickUnits s).ctl.stateMark = s.ctl.stateMark := rfl
@[simp] theorem tickUnits_ctl_faultMark (s : State) : (tickUnits s).ctl.faultMark = s.ctl.faultMark := rfl
@[simp] theorem tickUnits_ctl_bypassn (s : State) : (tickUnits s).ctl.bypassn = s.ctl.bypassn := rfl
@[simp] theorem tickUnits_ctl_tickCounter (s : State) : (tickUnits s).ctl.tickCounter = s.ctl.tickCounter := rfl
@[simp] theorem tickUnits_host (s : State) : (tickUnits s).host = s.host := rfl
@[simp] theorem tickUnits_resetn (s : State) : (tickUnits s).resetn = s.resetn := rfl
@[simp] theorem tickUnits_pending (s : State) : (tickUnits s).pending = s.pending := rfl

/-! ### Updates under a condition -/

@[simp] theorem returnTokens_up_link (n : Nat) (s : State) : (returnTokens n s).up.link = s.up.link := rfl
@[simp] theorem returnTokens_up_receiveLock (n : Nat) (s : State) : (returnTokens n s).up.receiveLock = s.up.receiveLock := rfl
@[simp] theorem returnTokens_up_farLock (n : Nat) (s : State) : (returnTokens n s).up.farLock = s.up.farLock := rfl
@[simp] theorem returnTokens_up_badRun (n : Nat) (s : State) : (returnTokens n s).up.badRun = s.up.badRun := rfl
@[simp] theorem returnTokens_up_advertisementOwed (n : Nat) (s : State) : (returnTokens n s).up.advertisementOwed = s.up.advertisementOwed := rfl
@[simp] theorem returnTokens_down (n : Nat) (s : State) : (returnTokens n s).down = s.down := rfl
@[simp] theorem returnTokens_fh (n : Nat) (s : State) : (returnTokens n s).fh = s.fh := rfl
@[simp] theorem returnTokens_table (n : Nat) (s : State) : (returnTokens n s).table = s.table := rfl
@[simp] theorem returnTokens_scan (n : Nat) (s : State) : (returnTokens n s).scan = s.scan := rfl
@[simp] theorem returnTokens_clock (n : Nat) (s : State) : (returnTokens n s).clock = s.clock := rfl
@[simp] theorem returnTokens_shadow (n : Nat) (s : State) : (returnTokens n s).shadow = s.shadow := rfl
@[simp] theorem returnTokens_census (n : Nat) (s : State) : (returnTokens n s).census = s.census := rfl
@[simp] theorem returnTokens_ctl (n : Nat) (s : State) : (returnTokens n s).ctl = s.ctl := rfl
@[simp] theorem returnTokens_host (n : Nat) (s : State) : (returnTokens n s).host = s.host := rfl
@[simp] theorem returnTokens_resetn (n : Nat) (s : State) : (returnTokens n s).resetn = s.resetn := rfl
@[simp] theorem returnTokens_pending (n : Nat) (s : State) : (returnTokens n s).pending = s.pending := rfl

@[simp] theorem cutSend_up (s : State) : (cutSend s).up = s.up := rfl
@[simp] theorem cutSend_down_link (s : State) : (cutSend s).down.link = s.down.link := rfl
@[simp] theorem cutSend_down_receiveLock (s : State) : (cutSend s).down.receiveLock = s.down.receiveLock := rfl
@[simp] theorem cutSend_down_farLock (s : State) : (cutSend s).down.farLock = s.down.farLock := rfl
@[simp] theorem cutSend_down_credit (s : State) : (cutSend s).down.credit = s.down.credit := rfl
@[simp] theorem cutSend_fh_transit (s : State) : (cutSend s).fh.transit = s.fh.transit := rfl
@[simp] theorem cutSend_fh_origination (s : State) : (cutSend s).fh.origination = s.fh.origination := rfl
@[simp] theorem cutSend_fh_outstanding (s : State) : (cutSend s).fh.outstanding = s.fh.outstanding := rfl
@[simp] theorem cutSend_fh_arbiterPos (s : State) : (cutSend s).fh.arbiterPos = s.fh.arbiterPos := rfl
@[simp] theorem cutSend_table (s : State) : (cutSend s).table = s.table := rfl
@[simp] theorem cutSend_scan (s : State) : (cutSend s).scan = s.scan := rfl
@[simp] theorem cutSend_clock (s : State) : (cutSend s).clock = s.clock := rfl
@[simp] theorem cutSend_shadow (s : State) : (cutSend s).shadow = s.shadow := rfl
@[simp] theorem cutSend_census (s : State) : (cutSend s).census = s.census := rfl
@[simp] theorem cutSend_ctl (s : State) : (cutSend s).ctl = s.ctl := rfl
@[simp] theorem cutSend_host (s : State) : (cutSend s).host = s.host := rfl
@[simp] theorem cutSend_resetn (s : State) : (cutSend s).resetn = s.resetn := rfl
@[simp] theorem cutSend_pending (s : State) : (cutSend s).pending = s.pending := rfl

@[simp] theorem sendRebase_up (s : State) : (sendRebase s).up = s.up := rfl
@[simp] theorem sendRebase_down_link (s : State) : (sendRebase s).down.link = s.down.link := rfl
@[simp] theorem sendRebase_down_receiveLock (s : State) : (sendRebase s).down.receiveLock = s.down.receiveLock := rfl
@[simp] theorem sendRebase_down_farLock (s : State) : (sendRebase s).down.farLock = s.down.farLock := rfl
@[simp] theorem sendRebase_down_credit (s : State) : (sendRebase s).down.credit = s.down.credit := rfl
@[simp] theorem sendRebase_fh_transit (s : State) : (sendRebase s).fh.transit = s.fh.transit := rfl
@[simp] theorem sendRebase_fh_origination (s : State) : (sendRebase s).fh.origination = s.fh.origination := rfl
@[simp] theorem sendRebase_fh_outstanding (s : State) : (sendRebase s).fh.outstanding = s.fh.outstanding := rfl
@[simp] theorem sendRebase_fh_arbiterPos (s : State) : (sendRebase s).fh.arbiterPos = s.fh.arbiterPos := rfl
@[simp] theorem sendRebase_table (s : State) : (sendRebase s).table = s.table := rfl
@[simp] theorem sendRebase_scan (s : State) : (sendRebase s).scan = s.scan := rfl
@[simp] theorem sendRebase_clock (s : State) : (sendRebase s).clock = s.clock := rfl
@[simp] theorem sendRebase_shadow (s : State) : (sendRebase s).shadow = s.shadow := rfl
@[simp] theorem sendRebase_census (s : State) : (sendRebase s).census = s.census := rfl
@[simp] theorem sendRebase_ctl (s : State) : (sendRebase s).ctl = s.ctl := rfl
@[simp] theorem sendRebase_host (s : State) : (sendRebase s).host = s.host := rfl
@[simp] theorem sendRebase_resetn (s : State) : (sendRebase s).resetn = s.resetn := rfl
@[simp] theorem sendRebase_pending (s : State) : (sendRebase s).pending = s.pending := rfl

@[simp] theorem countReturn_up (f : Frame) (s : State) : (countReturn f s).up = s.up := rfl
@[simp] theorem countReturn_down (f : Frame) (s : State) : (countReturn f s).down = s.down := rfl
@[simp] theorem countReturn_fh_transit (f : Frame) (s : State) : (countReturn f s).fh.transit = s.fh.transit := rfl
@[simp] theorem countReturn_fh_origination (f : Frame) (s : State) : (countReturn f s).fh.origination = s.fh.origination := rfl
@[simp] theorem countReturn_fh_inSend (f : Frame) (s : State) : (countReturn f s).fh.inSend = s.fh.inSend := rfl
@[simp] theorem countReturn_fh_arbiterPos (f : Frame) (s : State) : (countReturn f s).fh.arbiterPos = s.fh.arbiterPos := rfl
@[simp] theorem countReturn_table (f : Frame) (s : State) : (countReturn f s).table = s.table := rfl
@[simp] theorem countReturn_scan (f : Frame) (s : State) : (countReturn f s).scan = s.scan := rfl
@[simp] theorem countReturn_clock (f : Frame) (s : State) : (countReturn f s).clock = s.clock := rfl
@[simp] theorem countReturn_shadow (f : Frame) (s : State) : (countReturn f s).shadow = s.shadow := rfl
@[simp] theorem countReturn_census (f : Frame) (s : State) : (countReturn f s).census = s.census := rfl
@[simp] theorem countReturn_ctl (f : Frame) (s : State) : (countReturn f s).ctl = s.ctl := rfl
@[simp] theorem countReturn_host (f : Frame) (s : State) : (countReturn f s).host = s.host := rfl
@[simp] theorem countReturn_resetn (f : Frame) (s : State) : (countReturn f s).resetn = s.resetn := rfl
@[simp] theorem countReturn_pending (f : Frame) (s : State) : (countReturn f s).pending = s.pending := rfl

@[simp] theorem startRetryTimer_up (f : Frame) (s : State) : (startRetryTimer f s).up = s.up := rfl
@[simp] theorem startRetryTimer_down (f : Frame) (s : State) : (startRetryTimer f s).down = s.down := rfl
@[simp] theorem startRetryTimer_fh (f : Frame) (s : State) : (startRetryTimer f s).fh = s.fh := rfl
@[simp] theorem startRetryTimer_table (f : Frame) (s : State) : (startRetryTimer f s).table = s.table := rfl
@[simp] theorem startRetryTimer_scan (f : Frame) (s : State) : (startRetryTimer f s).scan = s.scan := rfl
@[simp] theorem startRetryTimer_clock (f : Frame) (s : State) : (startRetryTimer f s).clock = s.clock := rfl
@[simp] theorem startRetryTimer_shadow (f : Frame) (s : State) : (startRetryTimer f s).shadow = s.shadow := rfl
@[simp] theorem startRetryTimer_census_epoch (f : Frame) (s : State) : (startRetryTimer f s).census.epoch = s.census.epoch := rfl
@[simp] theorem startRetryTimer_census_roster (f : Frame) (s : State) : (startRetryTimer f s).census.roster = s.census.roster := rfl
@[simp] theorem startRetryTimer_census_previousRoster (f : Frame) (s : State) : (startRetryTimer f s).census.previousRoster = s.census.previousRoster := rfl
@[simp] theorem startRetryTimer_census_bestKey (f : Frame) (s : State) : (startRetryTimer f s).census.bestKey = s.census.bestKey := rfl
@[simp] theorem startRetryTimer_census_censusDue (f : Frame) (s : State) : (startRetryTimer f s).census.censusDue = s.census.censusDue := rfl
@[simp] theorem startRetryTimer_census_rosterDue (f : Frame) (s : State) : (startRetryTimer f s).census.rosterDue = s.census.rosterDue := rfl
@[simp] theorem startRetryTimer_census_formationTimer (f : Frame) (s : State) : (startRetryTimer f s).census.formationTimer = s.census.formationTimer := rfl
@[simp] theorem startRetryTimer_ctl (f : Frame) (s : State) : (startRetryTimer f s).ctl = s.ctl := rfl
@[simp] theorem startRetryTimer_host (f : Frame) (s : State) : (startRetryTimer f s).host = s.host := rfl
@[simp] theorem startRetryTimer_resetn (f : Frame) (s : State) : (startRetryTimer f s).resetn = s.resetn := rfl
@[simp] theorem startRetryTimer_pending (f : Frame) (s : State) : (startRetryTimer f s).pending = s.pending := rfl

@[simp] theorem seeNormalUp_up_link (s : State) : (seeNormalUp s).up.link = s.up.link := rfl
@[simp] theorem seeNormalUp_up_receiveLock (s : State) : (seeNormalUp s).up.receiveLock = s.up.receiveLock := rfl
@[simp] theorem seeNormalUp_up_badRun (s : State) : (seeNormalUp s).up.badRun = s.up.badRun := rfl
@[simp] theorem seeNormalUp_up_advertisementOwed (s : State) : (seeNormalUp s).up.advertisementOwed = s.up.advertisementOwed := rfl
@[simp] theorem seeNormalUp_up_sent (s : State) : (seeNormalUp s).up.sent = s.up.sent := rfl
@[simp] theorem seeNormalUp_down (s : State) : (seeNormalUp s).down = s.down := rfl
@[simp] theorem seeNormalUp_fh (s : State) : (seeNormalUp s).fh = s.fh := rfl
@[simp] theorem seeNormalUp_table (s : State) : (seeNormalUp s).table = s.table := rfl
@[simp] theorem seeNormalUp_scan (s : State) : (seeNormalUp s).scan = s.scan := rfl
@[simp] theorem seeNormalUp_clock (s : State) : (seeNormalUp s).clock = s.clock := rfl
@[simp] theorem seeNormalUp_shadow (s : State) : (seeNormalUp s).shadow = s.shadow := rfl
@[simp] theorem seeNormalUp_census (s : State) : (seeNormalUp s).census = s.census := rfl
@[simp] theorem seeNormalUp_ctl (s : State) : (seeNormalUp s).ctl = s.ctl := rfl
@[simp] theorem seeNormalUp_host (s : State) : (seeNormalUp s).host = s.host := rfl
@[simp] theorem seeNormalUp_resetn (s : State) : (seeNormalUp s).resetn = s.resetn := rfl
@[simp] theorem seeNormalUp_pending (s : State) : (seeNormalUp s).pending = s.pending := rfl

@[simp] theorem seeNormalDown_up (s : State) : (seeNormalDown s).up = s.up := rfl
@[simp] theorem seeNormalDown_down_link (s : State) : (seeNormalDown s).down.link = s.down.link := rfl
@[simp] theorem seeNormalDown_down_receiveLock (s : State) : (seeNormalDown s).down.receiveLock = s.down.receiveLock := rfl
@[simp] theorem seeNormalDown_down_credit (s : State) : (seeNormalDown s).down.credit = s.down.credit := rfl
@[simp] theorem seeNormalDown_down_sent (s : State) : (seeNormalDown s).down.sent = s.down.sent := rfl
@[simp] theorem seeNormalDown_fh (s : State) : (seeNormalDown s).fh = s.fh := rfl
@[simp] theorem seeNormalDown_table (s : State) : (seeNormalDown s).table = s.table := rfl
@[simp] theorem seeNormalDown_scan (s : State) : (seeNormalDown s).scan = s.scan := rfl
@[simp] theorem seeNormalDown_clock (s : State) : (seeNormalDown s).clock = s.clock := rfl
@[simp] theorem seeNormalDown_shadow (s : State) : (seeNormalDown s).shadow = s.shadow := rfl
@[simp] theorem seeNormalDown_census (s : State) : (seeNormalDown s).census = s.census := rfl
@[simp] theorem seeNormalDown_ctl (s : State) : (seeNormalDown s).ctl = s.ctl := rfl
@[simp] theorem seeNormalDown_host (s : State) : (seeNormalDown s).host = s.host := rfl
@[simp] theorem seeNormalDown_resetn (s : State) : (seeNormalDown s).resetn = s.resetn := rfl
@[simp] theorem seeNormalDown_pending (s : State) : (seeNormalDown s).pending = s.pending := rfl

@[simp] theorem acceptCommand_up (b : List Byte) (s : State) : (acceptCommand b s).up = s.up := rfl
@[simp] theorem acceptCommand_down (b : List Byte) (s : State) : (acceptCommand b s).down = s.down := rfl
@[simp] theorem acceptCommand_fh (b : List Byte) (s : State) : (acceptCommand b s).fh = s.fh := rfl
@[simp] theorem acceptCommand_table (b : List Byte) (s : State) : (acceptCommand b s).table = s.table := rfl
@[simp] theorem acceptCommand_scan (b : List Byte) (s : State) : (acceptCommand b s).scan = s.scan := rfl
@[simp] theorem acceptCommand_clock (b : List Byte) (s : State) : (acceptCommand b s).clock = s.clock := rfl
@[simp] theorem acceptCommand_shadow (b : List Byte) (s : State) : (acceptCommand b s).shadow = s.shadow := rfl
@[simp] theorem acceptCommand_census (b : List Byte) (s : State) : (acceptCommand b s).census = s.census := rfl
@[simp] theorem acceptCommand_ctl (b : List Byte) (s : State) : (acceptCommand b s).ctl = s.ctl := rfl
@[simp] theorem acceptCommand_resetn (b : List Byte) (s : State) : (acceptCommand b s).resetn = s.resetn := rfl
@[simp] theorem acceptCommand_pending (b : List Byte) (s : State) : (acceptCommand b s).pending = s.pending := rfl

@[simp] theorem setIndex_up (b : List Byte) (s : State) : (setIndex b s).up = s.up := rfl
@[simp] theorem setIndex_down (b : List Byte) (s : State) : (setIndex b s).down = s.down := rfl
@[simp] theorem setIndex_fh (b : List Byte) (s : State) : (setIndex b s).fh = s.fh := rfl
@[simp] theorem setIndex_table (b : List Byte) (s : State) : (setIndex b s).table = s.table := rfl
@[simp] theorem setIndex_scan (b : List Byte) (s : State) : (setIndex b s).scan = s.scan := rfl
@[simp] theorem setIndex_clock (b : List Byte) (s : State) : (setIndex b s).clock = s.clock := rfl
@[simp] theorem setIndex_shadow (b : List Byte) (s : State) : (setIndex b s).shadow = s.shadow := rfl
@[simp] theorem setIndex_census (b : List Byte) (s : State) : (setIndex b s).census = s.census := rfl
@[simp] theorem setIndex_ctl (b : List Byte) (s : State) : (setIndex b s).ctl = s.ctl := rfl
@[simp] theorem setIndex_host_commands (b : List Byte) (s : State) : (setIndex b s).host.commands = s.host.commands := rfl
@[simp] theorem setIndex_host_nextSeq (b : List Byte) (s : State) : (setIndex b s).host.nextSeq = s.host.nextSeq := rfl
@[simp] theorem setIndex_host_overrun (b : List Byte) (s : State) : (setIndex b s).host.overrun = s.host.overrun := rfl
@[simp] theorem setIndex_host_results (b : List Byte) (s : State) : (setIndex b s).host.results = s.host.results := rfl
@[simp] theorem setIndex_host_spi (b : List Byte) (s : State) : (setIndex b s).host.spi = s.host.spi := rfl
@[simp] theorem setIndex_host_sdo (b : List Byte) (s : State) : (setIndex b s).host.sdo = s.host.sdo := rfl
@[simp] theorem setIndex_resetn (b : List Byte) (s : State) : (setIndex b s).resetn = s.resetn := rfl
@[simp] theorem setIndex_pending (b : List Byte) (s : State) : (setIndex b s).pending = s.pending := rfl

@[simp] theorem freeIfDone_up (i : SlotNo) (s : State) : (freeIfDone i s).up = s.up := rfl
@[simp] theorem freeIfDone_down (i : SlotNo) (s : State) : (freeIfDone i s).down = s.down := rfl
@[simp] theorem freeIfDone_fh (i : SlotNo) (s : State) : (freeIfDone i s).fh = s.fh := rfl
@[simp] theorem freeIfDone_scan (i : SlotNo) (s : State) : (freeIfDone i s).scan = s.scan := rfl
@[simp] theorem freeIfDone_clock (i : SlotNo) (s : State) : (freeIfDone i s).clock = s.clock := rfl
@[simp] theorem freeIfDone_shadow (i : SlotNo) (s : State) : (freeIfDone i s).shadow = s.shadow := rfl
@[simp] theorem freeIfDone_census (i : SlotNo) (s : State) : (freeIfDone i s).census = s.census := rfl
@[simp] theorem freeIfDone_ctl (i : SlotNo) (s : State) : (freeIfDone i s).ctl = s.ctl := rfl
@[simp] theorem freeIfDone_host (i : SlotNo) (s : State) : (freeIfDone i s).host = s.host := rfl
@[simp] theorem freeIfDone_resetn (i : SlotNo) (s : State) : (freeIfDone i s).resetn = s.resetn := rfl
@[simp] theorem freeIfDone_pending (i : SlotNo) (s : State) : (freeIfDone i s).pending = s.pending := rfl

/-! ### Updates made of others -/

@[simp] theorem flushTransit_up_link (s : State) : (flushTransit s).up.link = s.up.link := rfl
@[simp] theorem flushTransit_up_receiveLock (s : State) : (flushTransit s).up.receiveLock = s.up.receiveLock := rfl
@[simp] theorem flushTransit_up_farLock (s : State) : (flushTransit s).up.farLock = s.up.farLock := rfl
@[simp] theorem flushTransit_up_badRun (s : State) : (flushTransit s).up.badRun = s.up.badRun := rfl
@[simp] theorem flushTransit_up_advertisementOwed (s : State) : (flushTransit s).up.advertisementOwed = s.up.advertisementOwed := rfl
@[simp] theorem flushTransit_down (s : State) : (flushTransit s).down = s.down := rfl
@[simp] theorem flushTransit_fh_origination (s : State) : (flushTransit s).fh.origination = s.fh.origination := rfl
@[simp] theorem flushTransit_fh_outstanding (s : State) : (flushTransit s).fh.outstanding = s.fh.outstanding := rfl
@[simp] theorem flushTransit_table (s : State) : (flushTransit s).table = s.table := rfl
@[simp] theorem flushTransit_clock (s : State) : (flushTransit s).clock = s.clock := rfl
@[simp] theorem flushTransit_shadow (s : State) : (flushTransit s).shadow = s.shadow := rfl
@[simp] theorem flushTransit_census (s : State) : (flushTransit s).census = s.census := rfl
@[simp] theorem flushTransit_ctl (s : State) : (flushTransit s).ctl = s.ctl := rfl
@[simp] theorem flushTransit_host (s : State) : (flushTransit s).host = s.host := rfl
@[simp] theorem flushTransit_resetn (s : State) : (flushTransit s).resetn = s.resetn := rfl
@[simp] theorem flushTransit_pending (s : State) : (flushTransit s).pending = s.pending := rfl

@[simp] theorem dropHand_up_link (s : State) : (dropHand s).up.link = s.up.link := rfl
@[simp] theorem dropHand_up_receiveLock (s : State) : (dropHand s).up.receiveLock = s.up.receiveLock := rfl
@[simp] theorem dropHand_up_farLock (s : State) : (dropHand s).up.farLock = s.up.farLock := rfl
@[simp] theorem dropHand_up_badRun (s : State) : (dropHand s).up.badRun = s.up.badRun := rfl
@[simp] theorem dropHand_up_advertisementOwed (s : State) : (dropHand s).up.advertisementOwed = s.up.advertisementOwed := rfl
@[simp] theorem dropHand_down (s : State) : (dropHand s).down = s.down := rfl
@[simp] theorem dropHand_fh_origination (s : State) : (dropHand s).fh.origination = s.fh.origination := rfl
@[simp] theorem dropHand_fh_inSend (s : State) : (dropHand s).fh.inSend = s.fh.inSend := rfl
@[simp] theorem dropHand_fh_outstanding (s : State) : (dropHand s).fh.outstanding = s.fh.outstanding := rfl
@[simp] theorem dropHand_fh_arbiterPos (s : State) : (dropHand s).fh.arbiterPos = s.fh.arbiterPos := rfl
@[simp] theorem dropHand_table (s : State) : (dropHand s).table = s.table := rfl
@[simp] theorem dropHand_scan (s : State) : (dropHand s).scan = s.scan := rfl
@[simp] theorem dropHand_clock (s : State) : (dropHand s).clock = s.clock := rfl
@[simp] theorem dropHand_shadow (s : State) : (dropHand s).shadow = s.shadow := rfl
@[simp] theorem dropHand_census (s : State) : (dropHand s).census = s.census := rfl
@[simp] theorem dropHand_ctl (s : State) : (dropHand s).ctl = s.ctl := rfl
@[simp] theorem dropHand_host (s : State) : (dropHand s).host = s.host := rfl
@[simp] theorem dropHand_resetn (s : State) : (dropHand s).resetn = s.resetn := rfl
@[simp] theorem dropHand_pending (s : State) : (dropHand s).pending = s.pending := rfl

@[simp] theorem portsOff_up_sent (s : State) : (portsOff s).up.sent = s.up.sent := rfl
@[simp] theorem portsOff_fh_transit (s : State) : (portsOff s).fh.transit = s.fh.transit := rfl
@[simp] theorem portsOff_fh_origination (s : State) : (portsOff s).fh.origination = s.fh.origination := rfl
@[simp] theorem portsOff_fh_outstanding (s : State) : (portsOff s).fh.outstanding = s.fh.outstanding := rfl
@[simp] theorem portsOff_fh_arbiterPos (s : State) : (portsOff s).fh.arbiterPos = s.fh.arbiterPos := rfl
@[simp] theorem portsOff_table (s : State) : (portsOff s).table = s.table := rfl
@[simp] theorem portsOff_scan (s : State) : (portsOff s).scan = s.scan := rfl
@[simp] theorem portsOff_clock (s : State) : (portsOff s).clock = s.clock := rfl
@[simp] theorem portsOff_shadow (s : State) : (portsOff s).shadow = s.shadow := rfl
@[simp] theorem portsOff_census (s : State) : (portsOff s).census = s.census := rfl
@[simp] theorem portsOff_ctl (s : State) : (portsOff s).ctl = s.ctl := rfl
@[simp] theorem portsOff_host (s : State) : (portsOff s).host = s.host := rfl
@[simp] theorem portsOff_resetn (s : State) : (portsOff s).resetn = s.resetn := rfl
@[simp] theorem portsOff_pending (s : State) : (portsOff s).pending = s.pending := rfl

@[simp] theorem trainDownstream_up (s : State) : (trainDownstream s).up = s.up := rfl
@[simp] theorem trainDownstream_down_receiveLock (s : State) : (trainDownstream s).down.receiveLock = s.down.receiveLock := rfl
@[simp] theorem trainDownstream_down_farLock (s : State) : (trainDownstream s).down.farLock = s.down.farLock := rfl
@[simp] theorem trainDownstream_fh_transit (s : State) : (trainDownstream s).fh.transit = s.fh.transit := rfl
@[simp] theorem trainDownstream_fh_origination (s : State) : (trainDownstream s).fh.origination = s.fh.origination := rfl
@[simp] theorem trainDownstream_fh_outstanding (s : State) : (trainDownstream s).fh.outstanding = s.fh.outstanding := rfl
@[simp] theorem trainDownstream_fh_arbiterPos (s : State) : (trainDownstream s).fh.arbiterPos = s.fh.arbiterPos := rfl
@[simp] theorem trainDownstream_table (s : State) : (trainDownstream s).table = s.table := rfl
@[simp] theorem trainDownstream_scan (s : State) : (trainDownstream s).scan = s.scan := rfl
@[simp] theorem trainDownstream_clock (s : State) : (trainDownstream s).clock = s.clock := rfl
@[simp] theorem trainDownstream_shadow (s : State) : (trainDownstream s).shadow = s.shadow := rfl
@[simp] theorem trainDownstream_census (s : State) : (trainDownstream s).census = s.census := rfl
@[simp] theorem trainDownstream_ctl (s : State) : (trainDownstream s).ctl = s.ctl := rfl
@[simp] theorem trainDownstream_host (s : State) : (trainDownstream s).host = s.host := rfl
@[simp] theorem trainDownstream_resetn (s : State) : (trainDownstream s).resetn = s.resetn := rfl
@[simp] theorem trainDownstream_pending (s : State) : (trainDownstream s).pending = s.pending := rfl

end Sys2Proof.Machine
end

