-- ==== Sys2Proof/Laws/Table.lean ====
section
/-! SUPPORT. Laws of the lease table: reading after writing, passes, lookups in slot order, counts. -/

namespace Sys2Proof.Machine

@[simp] theorem Table.get_set_self (t : Table) (i : SlotNo) (sl : Slot) : (t.set i sl).get i = sl := by
  simp [Table.get, Table.set]

@[simp] theorem Table.get_set_ne (t : Table) (i j : SlotNo) (sl : Slot) (h : i ≠ j) :
    (t.set i sl).get j = t.get j := by
  have h' : i.val ≠ j.val := fun e => h (Fin.ext e)
  simp [Table.get, Table.set, List.getElem_set_ne h']

theorem Table.get_set (t : Table) (i j : SlotNo) (sl : Slot) :
    (t.set i sl).get j = if i = j then sl else t.get j := by
  by_cases h : i = j
  · subst h; simp
  · simp [h]

@[simp] theorem Table.get_mapIdx (t : Table) (f : SlotNo → Slot → Slot) (i : SlotNo) :
    (t.mapIdx f).get i = f i (t.get i) := by
  simp [Table.get, Table.mapIdx]

@[simp] theorem Table.get_allFree (i : SlotNo) : Table.allFree.get i = Slot.free :=
  List.getElem_replicate ..

/-- Two tables with the same slots are the same table. -/
theorem Table.ext_get {t u : Table} (h : ∀ i, t.get i = u.get i) : t = u := by
  obtain ⟨a, ha⟩ := t
  obtain ⟨b, hb⟩ := u
  have : a = b := by
    apply List.ext_getElem (ha.trans hb.symm)
    intro n h1 h2
    simpa [Table.get] using h ⟨n, by omega⟩
  subst this; rfl

theorem Table.mapIdx_id (t : Table) : (t.mapIdx fun _ sl => sl) = t :=
  Table.ext_get fun i => by simp

/-- The lowest slot that satisfies a test. -/
theorem Table.find_eq_some (t : Table) (p : SlotNo → Slot → Bool) (i : SlotNo) :
    t.find p = some i ↔ p i (t.get i) = true ∧ ∀ j, j < i → p j (t.get j) = false := by
  unfold Table.find
  rw [List.find?_eq_some_iff_getElem]
  constructor
  · rintro ⟨h1, n, hn, rfl, h2⟩
    refine ⟨h1, fun j hj => ?_⟩
    have := h2 j.val (by simpa [Fin.lt_def] using hj)
    simpa using this
  · rintro ⟨h1, h2⟩
    refine ⟨h1, i.val, by simp, by simp, fun j hj => ?_⟩
    have := h2 ⟨j, by omega⟩ (by simpa [Fin.lt_def] using hj)
    simpa using this

theorem Table.find_eq_none (t : Table) (p : SlotNo → Slot → Bool) :
    t.find p = none ↔ ∀ i, p i (t.get i) = false := by
  simp [Table.find]

/-- A count depends on the contents of the slots alone. -/
theorem Table.count_congr {t u : Table} (p : Record → Bool) (h : ∀ i, (t.get i).content = (u.get i).content) :
    t.count p = u.count p := by
  unfold Table.count
  congr 1
  funext i
  rw [h i]

@[simp] theorem Table.count_allFree (p : Record → Bool) : Table.allFree.count p = 0 := by
  simp [Table.count, Slot.free]

@[simp] theorem record_writeRecord_self (i : SlotNo) (r : Record) (s : State) :
    (writeRecord i r s).record i = some r := by
  simp [State.record, writeRecord]

@[simp] theorem record_writeRecord_ne (i j : SlotNo) (r : Record) (s : State) (h : i ≠ j) :
    (writeRecord i r s).record j = s.record j := by
  simp [State.record, writeRecord, h]

@[simp] theorem record_freeSlot_self (i : SlotNo) (s : State) : (freeSlot i s).record i = none := by
  simp [State.record, freeSlot, Slot.free]

@[simp] theorem record_freeSlot_ne (i j : SlotNo) (s : State) (h : i ≠ j) :
    (freeSlot i s).record j = s.record j := by
  simp [State.record, freeSlot, h]

@[simp] theorem rewriteSlot_content (f : SlotNo → Record → Option Record) (i : SlotNo) (sl : Slot) :
    (rewriteSlot f i sl).content = sl.content.bind (f i) := by
  cases h : sl.content <;> simp [rewriteSlot, h]

@[simp] theorem rewriteSlot_damaged (f : SlotNo → Record → Option Record) (i : SlotNo) (sl : Slot) :
    (rewriteSlot f i sl).damaged = sl.damaged := by
  cases h : sl.content <;> simp [rewriteSlot, h]

/-- A pass meets no check error exactly when no slot it reads is damaged. -/
theorem firstBad_eq_none (reads : Record → Bool) (t : Table) :
    firstBad reads t = none ↔ ∀ i r, (t.get i).content = some r → reads r = true → (t.get i).damaged = false := by
  unfold firstBad
  rw [Table.find_eq_none]
  constructor
  · intro h i r hr hx
    have := h i
    simpa [Slot.holds, hr, hx] using this
  · intro h i
    cases hc : (t.get i).content with
    | none => simp [Slot.holds, hc]
    | some r =>
      by_cases hx : reads r = true
      · simp [h i r hc hx]
      · simp [Slot.holds, hc, hx]

/-- A table with no damaged slot gives no check error. -/
theorem firstBad_of_undamaged {s : State} (h : s.undamaged) (reads : Record → Bool) :
    firstBad reads s.table = none := (firstBad_eq_none _ _).2 fun i _ _ _ => h i

end Sys2Proof.Machine
end

