-- ==== Sys2Proof/Laws/Ops.lean ====
section
/-! SUPPORT. Laws of the shared operations: for each, what it gives on a table whose slots agree with their
check values. -/

namespace Sys2Proof.Machine

/-! ### The table -/

theorem undamaged_writeRecord {s : State} (h : s.undamaged) (i : SlotNo) (r : Record) :
    (writeRecord i r s).undamaged := by
  intro j
  simp only [writeRecord, Table.get_set]
  split
  · rfl
  · exact h j

theorem undamaged_freeSlot {s : State} (h : s.undamaged) (i : SlotNo) : (freeSlot i s).undamaged := by
  intro j
  simp only [freeSlot, Table.get_set]
  split
  · rfl
  · exact h j

theorem undamaged_mapIdx {s : State} (h : s.undamaged) (f : SlotNo → Record → Option Record) :
    State.undamaged { s with table := s.table.mapIdx (rewriteSlot f) } := by
  intro j
  simpa using h j

@[simp] theorem record_mapIdx (s : State) (f : SlotNo → Record → Option Record) (i : SlotNo) :
    State.record { s with table := s.table.mapIdx (rewriteSlot f) } i = (s.record i).bind (f i) := by
  simp [State.record]

/-- The record of a slot whose slot is undamaged is the slot. -/
theorem get_of_record {s : State} (h : s.undamaged) {i : SlotNo} {c : Option Record} (hr : s.record i = c) :
    s.table.get i = { content := c, damaged := false } := by
  have := h i
  cases hs : s.table.get i with
  | mk x d =>
    rw [hs] at this
    simp only [State.record, hs] at hr
    subst hr
    simp only at this
    rw [this]

theorem passOver_done {s : State} (h : s.undamaged) (reads : Record → Bool)
    (f : SlotNo → Record → Option Record) :
    passOver reads f s = .done { s with table := s.table.mapIdx (rewriteSlot f) } := by
  simp [passOver, firstBad_of_undamaged h]

/-- A pass over the whole table changes the table alone, each record by itself. -/
theorem pass_done {s : State} (h : s.undamaged) (reads : Record → Bool) (f : SlotNo → Record → Option Record) :
    ∃ t, passOver reads f s = .done t ∧ t = { s with table := t.table } ∧ t.undamaged ∧
      ∀ i, t.record i = (s.record i).bind (f i) :=
  ⟨_, passOver_done h reads f, rfl, undamaged_mapIdx h f, record_mapIdx s f⟩

/-- A pass stops at the lowest slot it reads whose content and check value disagree; the changes to the slots below
it stand (R28). -/
theorem passOver_failed {s : State} {reads : Record → Bool} {e : SlotNo} (f : SlotNo → Record → Option Record)
    (he : firstBad reads s.table = some e) :
    passOver reads f s =
      .failed e { s with table := s.table.mapIdx fun i sl => if i < e then rewriteSlot f i sl else sl } := by
  simp [passOver, he]

/-- Two passes in a row. -/
theorem passes_done {s : State} (h : s.undamaged) (reads reads' : Record → Bool)
    (f g : SlotNo → Record → Option Record) :
    ∃ t, (passOver reads f s).andThen (passOver reads' g) = .done t ∧ t = { s with table := t.table } ∧
      t.undamaged ∧ ∀ i, t.record i = ((s.record i).bind (f i)).bind (g i) := by
  obtain ⟨u, hu, hs, hd, hr⟩ := pass_done h reads f
  obtain ⟨t, ht, hs', hd', hr'⟩ := pass_done hd reads' g
  refine ⟨t, by simp only [hu, Reading.andThen, ht], ?_, hd', fun i => by rw [hr', hr]⟩
  rw [hs', hs]

/-- Steps 2 and 3 of the entry to FORMING, on each record (R149). -/
theorem formingTable_done {s : State} (h : s.undamaged) :
    ∃ t, formingTable s = .done t ∧ t = { s with table := t.table } ∧ t.undamaged ∧
      ∀ i, t.record i = (s.record i).bind fun r => clearDue (formingOwn r) := by
  obtain ⟨t, h1, h2, h3, h4⟩ := passes_done h isOpenOwn holdsDue (fun _ r => some (formingOwn r)) (fun _ r => clearDue r)
  exact ⟨t, h1, h2, h3, fun i => by rw [h4]; cases s.record i <;> rfl⟩

/-- Steps 2 to 4 of the entry to ISOLATED, on each record (R150). -/
theorem isolateTable_done {s : State} (h : s.undamaged) :
    ∃ t, isolateTable s = .done t ∧ t = { s with table := t.table } ∧ t.undamaged ∧
      ∀ i, t.record i = ((s.record i).bind clearDue).bind fun r => dropShadow (isolateOwn r) := by
  obtain ⟨u, h1, h2, h3, h4⟩ := passes_done h holdsDue isOpenOwn (fun _ r => clearDue r) (fun _ r => some (isolateOwn r))
  obtain ⟨t, g1, g2, g3, g4⟩ := pass_done h3 (·.kind == .shadow) (fun _ r => dropShadow r)
  refine ⟨t, by rw [isolateTable, h1]; exact g1, by rw [g2, h2], g3, fun i => ?_⟩
  rw [g4, h4]
  cases (s.record i).bind clearDue <;> rfl

/-- Steps 3 and 4 of the entry to DETACHED, on each record (R159). -/
theorem detachTable_done {s : State} (h : s.undamaged) :
    ∃ t, detachTable s = .done t ∧ t = { s with table := t.table } ∧ t.undamaged ∧
      ∀ i, t.record i = (s.record i).bind fun r => (clearDue r).bind dropShadow := by
  obtain ⟨t, h1, h2, h3, h4⟩ := passes_done h holdsDue (·.kind == .shadow) (fun _ r => clearDue r) (fun _ r => dropShadow r)
  exact ⟨t, h1, h2, h3, fun i => by rw [h4]; cases s.record i <;> rfl⟩

theorem orphanCount_eq_zero {s : State}
    (h : ∀ i r, s.record i = some r → r.kind = .own) : orphanCount s = 0 := by
  unfold orphanCount Table.count
  rw [List.countP_eq_zero]
  intro i _
  cases hc : (s.table.get i).content with
  | none => simp
  | some r => simp [h i r hc]

theorem lookup_found {s : State} (h : s.undamaged) {p : Record → Bool} {i : SlotNo} {r : Record}
    (hr : s.record i = some r) (hp : p r = true)
    (hlow : ∀ j q, j < i → s.record j = some q → p q = false) : lookup p s = .found i r := by
  have hf : s.table.find (fun _ sl => sl.holds fun r => sl.damaged || p r) = some i := by
    refine (Table.find_eq_some ..).2 ⟨?_, fun j hj => ?_⟩
    · simp [get_of_record h hr, Slot.holds, hp]
    · cases hc : s.record j with
      | none => simp [get_of_record h hc, Slot.holds]
      | some q => simp [get_of_record h hc, Slot.holds, hlow j q hj hc]
  simp [lookup, hf, get_of_record h hr]

theorem lookup_absent {s : State} (h : s.undamaged) {p : Record → Bool}
    (hp : ∀ i r, s.record i = some r → p r = false) : lookup p s = .absent := by
  have hf : s.table.find (fun _ sl => sl.holds fun r => sl.damaged || p r) = none := by
    refine (Table.find_eq_none ..).2 fun j => ?_
    cases hc : s.record j with
    | none => simp [get_of_record h hc, Slot.holds]
    | some q => simp [get_of_record h hc, Slot.holds, hp j q hc]
  simp [lookup, hf]

theorem lowestFree_eq_some {s : State} {i : SlotNo} :
    lowestFree s = some i ↔ s.record i = none ∧ ∀ j, j < i → s.record j ≠ none := by
  simp [lowestFree, Table.find_eq_some, State.record, Option.isSome_iff_ne_none]

theorem lowestFree_eq_none {s : State} : lowestFree s = none ↔ ∀ i, s.record i ≠ none := by
  simp [lowestFree, Table.find_eq_none, State.record, Option.isSome_iff_ne_none]

theorem noticeSlot_eq_none {s : State} :
    noticeSlot s = none ↔ ∀ i r, s.record i = some r → r.notice = none := by
  simp only [noticeSlot, Table.find_eq_none, State.record, Slot.holds]
  refine forall_congr' fun i => ?_
  cases (s.table.get i).content <;> simp

theorem noticeSlot_eq_some {s : State} {i : SlotNo} {r : Record} (hr : s.record i = some r) :
    noticeSlot s = some i ↔ r.notice.isSome ∧ ∀ j q, j < i → s.record j = some q → q.notice = none := by
  simp only [State.record] at hr
  simp only [noticeSlot, Table.find_eq_some, State.record, Slot.holds, hr, Option.any_some]
  refine and_congr Iff.rfl (forall_congr' fun j => ?_)
  cases (s.table.get j).content <;> simp

/-! ### The wake rule and retirements -/

/-- The wake rule rewrites the table alone, each record by itself (R46). -/
theorem wakeOver_done {s : State} (h : s.undamaged) (hit : Range → Bool) :
    ∃ t, wakeOver hit s = .done t ∧ t = { s with table := t.table } ∧ t.undamaged ∧
      ∀ i, WakesOver hit s t i := by
  unfold wakeOver
  split
  · rename_i hd
    refine ⟨_, passOver_done h _ _, rfl, undamaged_mapIdx h _, fun i => ?_⟩
    unfold WakesOver
    rw [record_mapIdx]
    cases s.record i with
    | none => rfl
    | some r =>
      simp only [Option.bind_some, Option.map_some, wakeRecord, hd, true_and]
      split
      · cases r.state <;> rfl
      · rfl
  · rename_i hd
    exact ⟨s, rfl, rfl, h, fun i => by unfold WakesOver; cases s.record i <;> simp [hd]⟩

/-- The wake rule for one released range (R46). -/
theorem wake_done {s : State} (h : s.undamaged) (range : Range) :
    ∃ t, wake range s = .done t ∧ t = { s with table := t.table } ∧ t.undamaged ∧
      ∀ i, Wakes range s t i := wakeOver_done h _

/-- A table-only change leaves what the state says of the slot. -/
theorem freeIfDone_record (i : SlotNo) (s : State) (j : SlotNo) :
    (freeIfDone i s).record j = if i = j then (s.record j).bind keepUnlessDone else s.record j := by
  simp only [freeIfDone, State.record]
  by_cases hj : i = j
  · subst hj
    cases hc : (s.table.get i).content with
    | none => simp [Slot.holds, hc]
    | some r =>
      cases hk : keepUnlessDone r with
      | none => simp [Slot.holds, hc, hk, Slot.free]
      | some q =>
        have : q = r := by
          unfold keepUnlessDone at hk
          split at hk
          · cases hk
          · exact (Option.some.inj hk).symm
        simp [Slot.holds, hc, hk, this]
  · simp only [hj, if_false]
    split
    · simp [hj]
    · rfl

theorem undamaged_freeIfDone {s : State} (h : s.undamaged) (i : SlotNo) : (freeIfDone i s).undamaged := by
  intro j
  simp only [freeIfDone]
  split
  · rw [Table.get_set]
    split
    · rfl
    · exact h j
  · exact h j

/-- The notice mark that a retirement leaves (R24, R55). -/
def retiredNotice (notice : Option Notice) (r : Record) : Option NoticeMark :=
  match notice with
  | none => r.notice
  | some n => some { notice := n, replaced := r.notice.isSome }

/-- An own record's retirement changes the table alone, and is what R55 says of the slot and of the others. -/
theorem retireSlot_done {s : State} (h : s.undamaged) (i : SlotNo) (r : Record) (out : RecOutcome)
    (reason : ReleaseReason) (notice : Option Notice) :
    ∃ t, retireSlot i r out reason notice s = .done t ∧ t = { s with table := t.table } ∧
      Retires i r out reason (retiredNotice notice r) s t := by
  obtain ⟨t, ht, hs, hu, hw⟩ := wake_done (undamaged_writeRecord h i (retireOwn s.ctl.state out reason notice r)) r.range
  refine ⟨freeIfDone i t, by simp [retireSlot, ht, Reading.andThen], by rw [hs]; rfl, ?_, ?_, undamaged_freeIfDone hu i⟩
  · have h1 := hw i
    simp only [Wakes, WakesOver, record_writeRecord_self, Option.map_some] at h1
    have h2 : (retireOwn s.ctl.state out reason notice r).state = .retired := by
      cases notice <;> rfl
    simp only [h2, reduceCtorEq, if_false, ite_self] at h1
    rw [freeIfDone_record, if_pos rfl, h1]
    by_cases hd : dueAllowed s.ctl.state = true <;> by_cases ho : r.state = .granted ∨ r.objected = true <;>
      cases notice <;> cases hn : r.notice <;>
      simp [keepUnlessDone, retireOwn, retiredNotice, setNotice, dueIn, hd, ho, hn]
  · intro j hj
    have h1 := hw j
    simp only [Wakes, WakesOver, record_writeRecord_ne _ _ _ _ (Ne.symm hj)] at h1
    rw [Wakes, WakesOver, freeIfDone_record, if_neg (Ne.symm hj), h1]
    rfl

/-! ### The local scan -/

/-- Some record other than the claim's own stands in the way of a claim (R35). -/
def obstructed (s : State) (own : SlotNo) (stamp : Stamp) (range : Range) (mode : Mode) : Prop :=
  ∃ j r, j ≠ own ∧ s.record j = some r ∧ standsInTheWay stamp range mode r = true

theorem localScan_blocked {s : State} (h : s.undamaged) {own : SlotNo} {stamp : Stamp} {range : Range} {mode : Mode}
    (hb : s.fenceActive = true ∨ obstructed s own stamp range mode) :
    localScan own stamp range mode s = .blocked := by
  have hbad : (s.table.find fun i sl => i != own && sl.damaged && sl.content.isSome) = none :=
    (Table.find_eq_none ..).2 fun j => by simp [h j]
  unfold localScan
  split
  · rfl
  · rename_i hf
    obtain hb | ⟨j, r, hj, hr, hs⟩ := hb
    · exact absurd hb hf
    · have : (s.table.find fun i sl => i != own && sl.holds (standsInTheWay stamp range mode)) ≠ none := by
        intro hn
        have := (Table.find_eq_none ..).1 hn j
        simp [hj, get_of_record h hr, Slot.holds, hs] at this
      simp [hbad, Option.isSome_iff_ne_none, this]

theorem localScan_clear {s : State} (h : s.undamaged) {own : SlotNo} {stamp : Stamp} {range : Range} {mode : Mode}
    (hf : s.fenceActive = false) (hb : ¬ obstructed s own stamp range mode) :
    localScan own stamp range mode s = .clear := by
  have hbad : (s.table.find fun i sl => i != own && sl.damaged && sl.content.isSome) = none :=
    (Table.find_eq_none ..).2 fun j => by simp [h j]
  have hn : (s.table.find fun i sl => i != own && sl.holds (standsInTheWay stamp range mode)) = none := by
    refine (Table.find_eq_none ..).2 fun j => ?_
    cases hr : s.record j with
    | none => simp [get_of_record h hr, Slot.holds]
    | some r =>
      by_cases hj : j = own
      · simp [hj]
      · have : standsInTheWay stamp range mode r = false := by
          by_contra hc
          exact hb ⟨j, r, hj, hr, by simpa using hc⟩
        simp [get_of_record h hr, Slot.holds, this]
  simp [localScan, hf, hbad, hn]

/-! ### The entries to the station states -/

theorem record_haltSlot (s : State) (i : SlotNo) :
    State.record { s with table := s.table.mapIdx fun _ sl => haltSlot sl } i =
      (haltSlot (s.table.get i)).content := by
  simp [State.record]

/-- The entry to HALTED does what R29 and R160 say, from any table. -/
theorem enterHalted_halts (cause : HaltCause) (s : State) :
    Halts cause s (enterHalted cause s) ∧ (enterHalted cause s).host = { s.host with commands := [] } := by
  have hrec : ∀ i, (enterHalted cause s).table.get i = haltSlot (s.table.get i) := by
    intro i
    exact Table.get_mapIdx ..
  refine ⟨{ control := rfl, upPort := rfl, downPort := rfl, queues := ?_, scanner := rfl, shadow := rfl,
            census := rfl, clock := rfl, kept := ?_, freed := ?_, sound := ?_ }, rfl⟩
  · rfl
  · intro i r hd hr hk hs hn
    simp only [State.record] at hr ⊢
    rw [hrec i]
    simp [haltSlot, hd, hr, hk, hs, hn]
  · intro i hi
    simp only [State.record] at hi ⊢
    rw [hrec i]
    unfold haltSlot
    split
    · rename_i r hd hr
      have := hi r hd hr
      split
      · rename_i hc
        obtain ⟨h1, h2, h3⟩ := hc
        simp [this h1 h2] at h3
      · rfl
    · rfl
  · intro i
    rw [hrec i]
    unfold haltSlot
    split
    · split <;> rfl
    · rfl

theorem withDue_none {r : Record} (h : r.due = none) : { r with due := none } = r := by
  cases r; cases h; rfl

theorem forming_pending {r : Record} (hk : r.kind = .own) (hs : r.state = .pending) :
    clearDue (formingOwn r) = some (enterWaiting .epoch r) := by
  have hw : (enterWaiting .epoch r).due = none ∧ (enterWaiting .epoch r).state = .waiting := by
    unfold enterWaiting; split <;> exact ⟨rfl, rfl⟩
  unfold clearDue formingOwn
  simp only [hk, hs, if_true]
  rw [withDue_none hw.1]
  simp [keepUnlessDone, hw.2]

/-- A read that meets a check error halts the station, the completions and the results standing (R28, R160). -/
theorem tableCheck_halts {s : State} (h : s.ctl.state ≠ .halted) (i : SlotNo) :
    Halts .tableCheck s (tableCheck i s) ∧ (tableCheck i s).host = { s.host with commands := [] } := by
  simp only [tableCheck, if_neg h]
  exact enterHalted_halts .tableCheck s

/-- The steps that every entry to FORMING from ACTIVE takes before the proposal (R149). -/
theorem formingBase_done {s : State} (h : s.undamaged) :
    ∃ t, formingBase s = .done t ∧ FormingTable s t ∧
      t.ctl = { s.ctl with state := .forming } ∧
      t.shadow = { s.shadow with fenceEndDue := false } ∧
      t.census = { s.census with
        censusDue := false, rosterDue := none, retryTimer := none,
        formationTimer := some s.ctl.config.formationLimit } ∧
      t.fh.origination = [] ∧ t.scan = none ∧ t.clock = s.clock ∧ t.fh.outstanding = s.fh.outstanding ∧
      t.down = s.down ∧ t.host = s.host ∧ t.pending = s.pending ∧ t.fh.arbiterPos = s.fh.arbiterPos ∧
      t.up.link = s.up.link ∧ t.fh.inSend = s.fh.inSend.map (leaveQueue .origination) ∧
      (s.scan = none → t.up = s.up ∧ t.fh.transit = s.fh.transit) ∧
      (s.scan.isSome → t.fh.transit = s.fh.transit.filter fun x => x.cond != .inHand) := by
  have h0 : State.undamaged { s with ctl := { s.ctl with state := .forming } } := h
  obtain ⟨u, hu, hs, hd, hrec⟩ := formingTable_done h0
  simp only [formingBase, hu, Reading.andThen]
  refine ⟨_, rfl, ?_, ?_⟩
  · suffices key : ∀ t : State, t.table = u.table → FormingTable s t by
      apply key
      cases hsc : u.scan <;> simp [flushOrigination, abandonScan, dropHand, returnTokens, hsc]
    intro t ht
    have hrec : ∀ i, t.record i = (s.record i).bind fun r => clearDue (formingOwn r) := by
      intro i
      have := hrec i
      simpa [State.record, ht] using this
    refine { free := ?_, pending := ?_, claims := ?_, shadows := ?_, retired := ?_, freed := ?_, sound := ?_ }
    · intro i hi; simp [hrec, hi]
    · intro i r hi hk hs
      rw [hrec, hi]
      exact forming_pending hk hs
    · intro i r hi hk hs
      rw [hrec, hi]
      obtain hs | hs := hs <;> simp [clearDue, formingOwn, hk, hs, keepUnlessDone]
    · intro i r hi hk hs
      rw [hrec, hi]
      simp [clearDue, formingOwn, hk, hs, keepUnlessDone]
    · intro i r hi hk hs hn
      rw [hrec, hi]
      have : r.notice ≠ none := by intro e; simp [e] at hn
      simp [clearDue, formingOwn, hk, hs, keepUnlessDone, this]
    · intro i r hi hs hn
      rw [hrec, hi]
      cases hk : r.kind <;> simp [clearDue, formingOwn, hk, hs, keepUnlessDone, hn]
    · intro i
      rw [ht]; exact hd i
  · rw [hs]
    cases hsc : s.scan <;>
      simp [flushOrigination, abandonScan, dropHand, returnTokens]

/-- The entry to FORMING by a cause other than a foreign CENSUS, at an epoch that can be raised (R133, R149). -/
theorem enterForming_forms {s : State} (h : s.undamaged) (he : s.census.epoch ≠ Config.maxWord32) :
    ∃ t, enterForming s = .done t ∧ Forms s t ∧ t.host = s.host ∧ t.down = s.down ∧ t.pending = s.pending ∧
      t.fh.arbiterPos = s.fh.arbiterPos ∧
      t.up.link = s.up.link ∧ t.fh.inSend = s.fh.inSend.map (leaveQueue .origination) ∧
      (s.scan = none → t.up = s.up ∧ t.fh.transit = s.fh.transit) ∧
      (s.scan.isSome → t.fh.transit = s.fh.transit.filter fun x => x.cond != .inHand) := by
  obtain ⟨t, ht, h1, h2, h3, h4, h5, h6, h7, h8, h9, h10, h11, h12, h13, h14, h15, h16⟩ := formingBase_done h
  have he' : t.census.epoch ≠ Config.maxWord32 := by rw [h4]; exact he
  refine ⟨markStateNow .forming none (proposeEpoch (t.census.epoch + 1) t),
    by simp only [enterForming, ht, Reading.andThen, if_neg he'], ?_, h10, h9, h11, h12, h13, h14, h15, h16⟩
  refine { control := ?_, census := ?_, shadow := h3, table := ⟨h1.free, h1.pending, h1.claims, h1.shadows,
             h1.retired, h1.freed, h1.sound⟩, origination := h5, scanner := h6, clock := h7, outstanding := h8 }
  · simp [markStateNow, markState, proposeEpoch, stateMarkOf, h2, h4, State.fenceActive, h3, orphanCount]
  · simp [markStateNow, markState, proposeEpoch, h4, State.stationId, h2]

/-- At the last epoch the entry to FORMING ends in HALTED (R133, R160). -/
theorem enterForming_exhausted {s : State} (h : s.undamaged) (he : s.census.epoch = Config.maxWord32) :
    ∃ t, enterForming s = .done t ∧ t.ctl.state = .halted ∧ t.ctl.haltCause = some .epochExhausted ∧
      t.census.epoch = s.census.epoch ∧ t.host = { s.host with commands := [] } ∧ t.pending = s.pending ∧
      t.fh.transit = [] ∧ t.scan = none ∧ t.fh.arbiterPos = 0 ∧ t.fh.inSend = none ∧
      t.up.link = .off ∧ t.down.link = .off := by
  obtain ⟨t, ht, h1, h2, h3, h4, h5, h6, h7, h8, h9, h10, h11, h12, h13, h14, h15, h16⟩ := formingBase_done h
  have he' : t.census.epoch = Config.maxWord32 := by rw [h4]; exact he
  obtain ⟨hh, hc⟩ := enterHalted_halts .epochExhausted (markStateNow .forming none t)
  refine ⟨enterHalted .epochExhausted (markStateNow .forming none t),
    by simp only [enterForming, ht, Reading.andThen, if_pos he'], ?_, ?_, ?_, ?_, ?_, ?_, ?_, ?_, ?_, rfl, rfl⟩
  · rw [hh.control]
  · rw [hh.control]
  · rw [hh.census]
    simp [markStateNow, markState, h4]
  · rw [hc]
    simp [markStateNow, markState, h10]
  · exact h11
  · rw [hh.queues]; rfl
  · exact hh.scanner
  · rw [hh.queues]; rfl
  · rw [hh.queues]; rfl

/-- The entry to DETACHED (R159). -/
theorem enterDetached_detaches {s : State} (h : s.undamaged) (out : LeaveOutcome) :
    ∃ t, enterDetached out s = .done t ∧ Detaches out s t ∧ t.host = s.host ∧ t.pending = s.pending := by
  unfold enterDetached
  have h0 : State.undamaged (flushOrigination { flushTransit (portsOff { s with ctl := { s.ctl with
      state := .detached, leaveTimer := none, leaveOutcome := some out } }) with
    ctl := { s.ctl with
      state := .detached, leaveTimer := none, leaveOutcome := some out, bypassn := false } }) := h
  obtain ⟨u, hu, hs, hd, hrec⟩ := detachTable_done h0
  refine ⟨markStateNow .detached (some out) (stopCensus (clearShadowUnit u)), ?_, ?_, ?_, ?_⟩
  · have : detachTable _ = .done u := hu
    simp only
    erw [this]
    rfl
  · have hrec : ∀ i, u.record i = (s.record i).bind fun r => (clearDue r).bind dropShadow := hrec
    have ho : orphanCount (stopCensus (clearShadowUnit u)) = 0 := by
      refine orphanCount_eq_zero fun i r hr => ?_
      have hr : u.record i = some r := hr
      rw [hrec i] at hr
      obtain ⟨q, hq, hr⟩ := Option.bind_eq_some_iff.1 hr
      obtain ⟨q', -, hr⟩ := Option.bind_eq_some_iff.1 hr
      unfold dropShadow at hr
      split at hr
      · cases hr
      · rename_i hk
        cases hr
        cases hk' : r.kind
        · rfl
        · exact absurd hk' hk
    refine { control := ?_, upPort := ?_, downPort := ?_, queues := ?_, scanner := ?_, shadow := rfl, census := ?_,
             clock := ?_, shadows := ?_, free := ?_, freed := ?_, kept := ?_, sound := hd }
    · simp only [markStateNow, markState, ho, stateMarkOf]
      rw [hs]
      rfl
    · change u.up = _; rw [hs]; rfl
    · change u.down = _; rw [hs]; rfl
    · change u.fh = _; rw [hs]; rfl
    · change u.scan = _; rw [hs]; rfl
    · change (stopCensus (clearShadowUnit u)).census = _; rw [hs]; rfl
    · change u.clock = _; rw [hs]; rfl
    · intro i r hr hk
      change u.record i = _
      rw [hrec, hr]
      simp only [Option.bind_some, clearDue, keepUnlessDone]
      split <;> simp [dropShadow, hk]
    · intro i hr
      change u.record i = _
      simp [hrec, hr]
    · intro i r hr hs hn
      change u.record i = _
      rw [hrec, hr]
      simp [clearDue, keepUnlessDone, hs, hn]
    · intro i r hr hk hs
      change u.record i = _
      rw [hrec, hr]
      have : ¬ (r.state = .retired ∧ r.notice = none) := by
        rintro ⟨h1, h2⟩
        obtain hs | hs := hs
        · exact hs h1
        · simp [h2] at hs
      simp [clearDue, keepUnlessDone, this, dropShadow, hk]
  · change u.host = _; rw [hs]; rfl
  · change u.pending = _; rw [hs]; rfl

/-- `Forms` reads these parts of the state before alone. -/
theorem Forms.of_parts {s s' t : State} (h : Forms s t) (h1 : s'.ctl = s.ctl) (h2 : s'.census = s.census)
    (h3 : s'.shadow = s.shadow) (h4 : s'.table = s.table) (h5 : s'.clock = s.clock)
    (h6 : s'.fh.outstanding = s.fh.outstanding) : Forms s' t := by
  have hr : ∀ i, s'.record i = s.record i := fun i => by simp [State.record, h4]
  obtain ⟨a, b, c, d, e, f, g, k⟩ := h
  refine ⟨?_, ?_, ?_, ⟨?_, ?_, ?_, ?_, ?_, ?_, d.sound⟩, e, f, ?_, ?_⟩
  · rw [a, h1]; simp [stateMarkOf, State.fenceActive, h1, h3]
  · rw [b, h2, h1]; simp [State.stationId, h1]
  · rw [c, h3]
  · simpa only [hr] using d.free
  · simpa only [hr] using d.pending
  · simpa only [hr] using d.claims
  · simpa only [hr] using d.shadows
  · simpa only [hr] using d.retired
  · simpa only [hr] using d.freed
  · rw [g, h5]
  · rw [k, h6]

/-- `Detaches` reads these parts of the state before alone. -/
theorem Detaches.of_parts {out : LeaveOutcome} {s s' t : State} (h : Detaches out s t) (h1 : s'.ctl = s.ctl)
    (h2 : s'.census = s.census) (h4 : s'.table = s.table) (h5 : s'.clock = s.clock)
    (h6 : s'.fh.outstanding = s.fh.outstanding) (h7 : s'.up.sent = s.up.sent) : Detaches out s' t := by
  have hr : ∀ i, s'.record i = s.record i := fun i => by simp [State.record, h4]
  obtain ⟨a, b, c, d, e, f, g, k, l, m, n, o, p⟩ := h
  refine ⟨?_, ?_, c, ?_, e, f, ?_, ?_, ?_, ?_, ?_, ?_, p⟩
  · rw [a, h1]; simp [stateMarkOf, h1]
  · rw [b, h7]
  · rw [d, h6]
  · rw [g, h2]
  · rw [k, h5]
  · simpa only [hr] using l
  · simpa only [hr] using m
  · simpa only [hr] using n
  · simpa only [hr] using o

/-- What the departure of a port from UP does to the station, the transit queue being flushed (R109). -/
theorem stationAfterPortLoss_done {v : State} (h : v.undamaged) (hr : inRing v.ctl.state = true)
    (hq : v.fh.transit = []) (hs : v.scan = none) (ha : v.fh.arbiterPos = 0) :
    ∃ w, stationAfterPortLoss v = .done w ∧
      (w.fh.transit = [] ∧ w.scan = none ∧ w.fh.arbiterPos = 0) ∧ w.pending = v.pending ∧
      (v.ctl.state = .active → v.census.epoch ≠ Config.maxWord32 → Forms v w ∧ w.host = v.host ∧ w.up = v.up ∧
        w.down = v.down ∧ w.fh.inSend = v.fh.inSend.map (leaveQueue .origination)) ∧
      (v.ctl.state = .active → v.census.epoch = Config.maxWord32 → w.down.link = .off ∧ w.fh.inSend = none) ∧
      (v.ctl.state = .leaving → Detaches .interrupted v w ∧ w.host = v.host) ∧
      (formingOrIsolated v.ctl.state = true → w = v) := by
  cases hst : v.ctl.state with
  | active =>
    by_cases hm : v.census.epoch = Config.maxWord32
    · obtain ⟨w, h1, h2, h3, h4, h5, h6, h7, h8, h9, h10, h11, h12⟩ := enterForming_exhausted h hm
      exact ⟨w, by simp [stationAfterPortLoss, hst, h1], ⟨h7, h8, h9⟩, h6, fun _ he => absurd hm he,
        fun _ _ => ⟨h12, h10⟩, by simp, by simp [formingOrIsolated]⟩
    · obtain ⟨w, h1, h2, h3, h4, h5, h6, h7, h8, h9, h10⟩ := enterForming_forms h hm
      obtain ⟨h9, h11⟩ := h9 hs
      exact ⟨w, by simp [stationAfterPortLoss, hst, h1], ⟨h11.trans hq, h2.scanner, h6.trans ha⟩, h5,
        fun _ _ => ⟨h2, h3, h9, h4, h8⟩, fun _ he => absurd he hm, by simp, by simp [formingOrIsolated]⟩
  | leaving =>
    obtain ⟨w, h1, h2, h3, h4⟩ := enterDetached_detaches h .interrupted
    exact ⟨w, by simp [stationAfterPortLoss, hst, h1],
      ⟨by rw [h2.queues]; rfl, h2.scanner, by rw [h2.queues]; rfl⟩, h4, by simp, by simp, fun _ => ⟨h2, h3⟩,
      by simp [formingOrIsolated]⟩
  | forming => exact ⟨v, by simp [stationAfterPortLoss, hst], ⟨hq, hs, ha⟩, rfl, by simp, by simp, by simp, fun _ => rfl⟩
  | isolated => exact ⟨v, by simp [stationAfterPortLoss, hst], ⟨hq, hs, ha⟩, rfl, by simp, by simp, by simp, fun _ => rfl⟩
  | unconfigured => simp [hst, inRing] at hr
  | detached => simp [hst, inRing] at hr
  | halted => simp [hst, inRing] at hr

theorem inRing_cases {st : StationState} (h : inRing st = true) :
    st = .active ∨ st = .leaving ∨ formingOrIsolated st = true := by
  cases st <;> simp_all [inRing, formingOrIsolated]

/-- The upstream port's departure from UP, the port being in TRAINING already (R105, R109). -/
theorem upstreamLeftUp_lost {s : State} (h : s.undamaged) (hr : inRing s.ctl.state = true) (u : UpstreamPort)
    (hl : u.link = .training) (ho : u.advertisementOwed = false) (hn : u.sent = s.up.sent) :
    UpstreamLost s (upstreamLeftUp { s with up := u }) ∧
      (upstreamLeftUp { s with up := u }).pending = s.pending ∧
      (s.ctl.state ≠ .leaving → s.census.epoch ≠ Config.maxWord32 →
        (upstreamLeftUp { s with up := u }).up = u) := by
  have hf : flushTransit { s with up := u } = { s with
      up := u
      fh := { s.fh with transit := [], inSend := s.fh.inSend.map (leaveQueue .transit), arbiterPos := 0 }
      scan := none } := by
    obtain ⟨l, r, f, b, o, n⟩ := u
    simp only at hl
    subst hl
    simp [flushTransit, returnTokens]
  by_cases hd : s.down.link = .up
  · have hv : State.undamaged { s with
        up := u
        fh := { s.fh with transit := [], inSend := s.fh.inSend.map (leaveQueue .transit), arbiterPos := 0 }
        scan := none
        down := { s.down with link := .creditWait, credit := 0 } } := h
    obtain ⟨w, h1, h2, h3, h4, h5, h6, h7⟩ := stationAfterPortLoss_done hv hr rfl rfl rfl
    have hx : upstreamLeftUp { s with up := u } = if w.down.link = .creditWait then sendRebase w else w := by
      simp only [upstreamLeftUp, hf, hd, if_true, h1, Reading.settle]
    rw [hx]
    obtain hs | hs | hs := inRing_cases hr
    · by_cases hm : s.census.epoch = Config.maxWord32
      · obtain ⟨h8, h9⟩ := h5 hs hm
        rw [if_neg (by simp [h8])]
        refine ⟨⟨h2, fun _ e => absurd hm e, fun e => ?_, fun e => ?_, fun _ e => absurd hm e, fun _ e => absurd hm e,
          fun _ e => absurd hm e, .inr hm⟩, h3, fun _ e => absurd hm e⟩
        · simp [hs] at e
        · simp [hs, formingOrIsolated] at e
      · obtain ⟨h8, h9, h10, h11, h12⟩ := h4 hs hm
        rw [if_pos (by rw [h11])]
        refine ⟨⟨h2, fun _ _ => ?_, fun e => ?_, fun e => ?_, fun _ _ => ⟨?_, ?_, ?_⟩, fun _ _ _ => ⟨?_, ?_⟩,
          fun _ _ e => absurd hd e, .inl h9⟩, h3, fun _ _ => h10⟩
        · obtain ⟨a, b, c, d, e, f, g, k⟩ := h8
          exact ⟨a, b, c, ⟨d.free, d.pending, d.claims, d.shadows, d.retired, d.freed, d.sound⟩, e, f, g, k⟩
        · simp [hs] at e
        · simp [hs, formingOrIsolated] at e
        · exact (congrArg UpstreamPort.link h10).trans hl
        · exact (congrArg UpstreamPort.advertisementOwed h10).trans ho
        · exact (congrArg UpstreamPort.sent h10).trans hn
        · simp [sendRebase, h11, h12]
        · simp [sendRebase, h12, Option.map_map, Function.comp_def]
    · obtain ⟨h8, h9⟩ := h6 hs
      rw [if_neg (by rw [h8.downPort]; simp [State.reset, State.afterReset])]
      refine ⟨⟨h2, fun e => ?_, fun _ => ?_, fun e => ?_, fun e => absurd hs e, fun e => absurd hs e,
          fun e => absurd hs e, .inl h9⟩, h3, fun e => absurd hs e⟩
      · simp [hs] at e
      · exact h8.of_parts rfl rfl rfl rfl rfl hn.symm
      · simp [hs, formingOrIsolated] at e
    · have hw := h7 hs
      subst hw
      have hns : s.ctl.state ≠ .leaving := by intro e; simp [e, formingOrIsolated] at hs
      rw [if_pos rfl]
      refine ⟨⟨h2, fun e => ?_, fun e => absurd e hns, fun _ => ⟨rfl, rfl, rfl, rfl, rfl, rfl⟩,
        fun _ _ => ⟨hl, ho, hn⟩, fun _ _ _ => ⟨?_, ?_⟩,
          fun _ _ e => absurd hd e, .inl rfl⟩, rfl, fun _ _ => rfl⟩
      · simp [e, formingOrIsolated] at hs
      · simp [sendRebase]
      · simp [sendRebase, Option.map_map, Function.comp_def]
  · have hv : State.undamaged { s with
        up := u
        fh := { s.fh with transit := [], inSend := s.fh.inSend.map (leaveQueue .transit), arbiterPos := 0 }
        scan := none } := h
    obtain ⟨w, h1, h2, h3, h4, h5, h6, h7⟩ := stationAfterPortLoss_done hv hr rfl rfl rfl
    have hx : upstreamLeftUp { s with up := u } = w := by
      simp only [upstreamLeftUp, hf, hd, if_false, h1, Reading.settle]
    rw [hx]
    obtain hs | hs | hs := inRing_cases hr
    · by_cases hm : s.census.epoch = Config.maxWord32
      · refine ⟨⟨h2, fun _ e => absurd hm e, fun e => ?_, fun e => ?_, fun _ e => absurd hm e, fun _ e => absurd hm e,
          fun _ e => absurd hm e, .inr hm⟩, h3, fun _ e => absurd hm e⟩
        · simp [hs] at e
        · simp [hs, formingOrIsolated] at e
      · obtain ⟨h8, h9, h10, h11, h12⟩ := h4 hs hm
        refine ⟨⟨h2, fun _ _ => ?_, fun e => ?_, fun e => ?_, fun _ _ => ⟨?_, ?_, ?_⟩, fun _ _ e => absurd e hd,
          fun _ _ _ => h11, .inl h9⟩, h3, fun _ _ => h10⟩
        · exact h8.of_parts rfl rfl rfl rfl rfl rfl
        · simp [hs] at e
        · simp [hs, formingOrIsolated] at e
        · exact (congrArg UpstreamPort.link h10).trans hl
        · exact (congrArg UpstreamPort.advertisementOwed h10).trans ho
        · exact (congrArg UpstreamPort.sent h10).trans hn
    · obtain ⟨h8, h9⟩ := h6 hs
      refine ⟨⟨h2, fun e => ?_, fun _ => ?_, fun e => ?_, fun e => absurd hs e, fun e => absurd hs e,
          fun e => absurd hs e, .inl h9⟩, h3, fun e => absurd hs e⟩
      · simp [hs] at e
      · exact h8.of_parts rfl rfl rfl rfl rfl hn.symm
      · simp [hs, formingOrIsolated] at e
    · have hw := h7 hs
      subst hw
      have hns : s.ctl.state ≠ .leaving := by intro e; simp [e, formingOrIsolated] at hs
      refine ⟨⟨h2, fun e => ?_, fun e => absurd e hns, fun _ => ⟨rfl, rfl, rfl, rfl, rfl, rfl⟩,
        fun _ _ => ⟨hl, ho, hn⟩, fun _ _ e => absurd e hd,
          fun _ _ _ => rfl, .inl rfl⟩, rfl, fun _ _ => rfl⟩
      simp [e, formingOrIsolated] at hs

/-- The downstream port's departure from UP, the port being in TRAINING already with its send cut off (R101, R109). -/
theorem downstreamLeftUp_lost {s : State} (h : s.undamaged) (hr : inRing s.ctl.state = true) (d : DownstreamPort)
    (hl : d.link = .training) (hc : d.credit = 0)
    (hn : d.sent = s.down.sent ++ (s.fh.inSend.map fun x => .cutOff x.bytes).toList) :
    DownstreamLost s (downstreamLeftUp { s with down := d, fh := { s.fh with inSend := none } }) ∧
      (downstreamLeftUp { s with down := d, fh := { s.fh with inSend := none } }).pending = s.pending ∧
      (s.ctl.state ≠ .leaving → s.census.epoch ≠ Config.maxWord32 →
        (downstreamLeftUp { s with down := d, fh := { s.fh with inSend := none } }).down = d) := by
  have hv : State.undamaged (flushTransit { s with down := d, fh := { s.fh with inSend := none } }) := h
  obtain ⟨w, h1, h2, h3, h4, h5, h6, h7⟩ := stationAfterPortLoss_done hv hr rfl rfl rfl
  have hx : downstreamLeftUp { s with down := d, fh := { s.fh with inSend := none } } = w := by
    simp only [downstreamLeftUp, h1, Reading.settle]
  rw [hx]
  obtain hs | hs | hs := inRing_cases hr
  · by_cases hm : s.census.epoch = Config.maxWord32
    · obtain ⟨h8, h9⟩ := h5 hs hm
      refine ⟨⟨⟨h2.1, h2.2.1, h2.2.2, h9⟩, fun _ e => absurd hm e, fun e => ?_, fun e => ?_, fun _ e => absurd hm e,
        fun _ e => absurd hm e, .inr hm⟩, h3, fun _ e => absurd hm e⟩
      · simp [hs] at e
      · simp [hs, formingOrIsolated] at e
    · obtain ⟨h8, h9, h10, h11, h12⟩ := h4 hs hm
      have h12 : w.fh.inSend = none := h12
      have h11 : w.down = d := h11
      refine ⟨⟨⟨h2.1, h2.2.1, h2.2.2, h12⟩, fun _ _ => ?_, fun e => ?_, fun e => ?_, fun _ _ => ⟨?_, ?_, ?_⟩,
        fun _ _ => h10, .inl h9⟩, h3, fun _ _ => h11⟩
      · exact h8.of_parts rfl rfl rfl rfl rfl rfl
      · simp [hs] at e
      · simp [hs, formingOrIsolated] at e
      · rw [h11, hl]
      · rw [h11, hc]
      · rw [h11, hn]
  · obtain ⟨h8, h9⟩ := h6 hs
    refine ⟨⟨⟨h2.1, h2.2.1, h2.2.2, by rw [h8.queues]; rfl⟩, fun e => ?_, fun _ => ⟨?_, ?_, ?_, ?_⟩, fun e => ?_,
      fun e => absurd hs e, fun e => absurd hs e, .inl h9⟩, h3, fun e => absurd hs e⟩
    · simp [hs] at e
    · rw [h8.control]
    · rw [h8.control]
    · rw [h8.upPort]; rfl
    · rw [h8.downPort]; rfl
    · simp [hs, formingOrIsolated] at e
  · have hw := h7 hs
    subst hw
    have hns : s.ctl.state ≠ .leaving := by intro e; simp [e, formingOrIsolated] at hs
    refine ⟨⟨⟨h2.1, h2.2.1, h2.2.2, rfl⟩, fun e => ?_, fun e => absurd e hns, fun _ => ⟨rfl, rfl, rfl, rfl, rfl, rfl⟩,
      fun _ _ => ⟨hl, hc, hn⟩, fun _ _ => rfl, .inl rfl⟩, rfl, fun _ _ => rfl⟩
    simp [e, formingOrIsolated] at hs

/-! ### Adoption -/

theorem countP_lt_of_witness {α : Type} {p q : α → Bool} {l : List α} (hpq : ∀ a, p a = true → q a = true) {a : α}
    (ha : a ∈ l) (hp : p a = false) (hq : q a = true) : l.countP p < l.countP q := by
  induction l with
  | nil => cases ha
  | cons x xs ih =>
    rw [List.countP_cons, List.countP_cons]
    have hle : xs.countP p ≤ xs.countP q := List.countP_mono_left fun x _ => hpq x
    obtain rfl | ha := List.mem_cons.1 ha
    · simp [hp, hq]; omega
    · have := ih ha
      have : (if p x = true then 1 else 0) ≤ if q x = true then 1 else 0 := by
        by_cases h : p x = true
        · simp [h, hpq x h]
        · simp [h]
      omega

theorem precedes_irrefl (x : Stamp) : precedes x x = false := by simp [precedes]

theorem precedes_trans {x y z : Stamp} (h : precedes x y = true) (h' : precedes y z = true) :
    precedes x z = true := by
  obtain ⟨a, b, c⟩ := x
  obtain ⟨d, e, f⟩ := y
  obtain ⟨g, i, j⟩ := z
  simp only [precedes, Bool.or_eq_true, Bool.and_eq_true, decide_eq_true_eq, beq_iff_eq, BitVec.lt_def,
    ← BitVec.toNat_inj] at *
  omega

theorem waitingBefore_lt {t : Table} {i : SlotNo} {r : Record} (h : (t.get i).content = some r)
    (hw : ownWaiting r = true) : waitingBefore t i r < t.count ownWaiting := by
  refine countP_lt_of_witness (a := i) (fun j hj => ?_) (List.mem_finRange i) ?_ ?_
  · cases hc : (t.get j).content with
    | none => simp [Slot.holds, hc] at hj
    | some q => simp [Slot.holds, hc] at hj; simp [hj.1]
  · simp [Slot.holds, h, precedes_irrefl]
  · simp [h, hw]

theorem waitingBefore_strict {t : Table} {i j : SlotNo} {r q : Record} (h : (t.get i).content = some r)
    (hw : ownWaiting r = true) (hp : precedes r.identity q.identity = true) :
    waitingBefore t i r < waitingBefore t j q := by
  refine countP_lt_of_witness (a := i) (fun k hk => ?_) (List.mem_finRange i) ?_ ?_
  · cases hc : (t.get k).content with
    | none => simp [Slot.holds, hc] at hk
    | some x =>
      simp only [Slot.holds, hc, Option.any_some, Bool.and_eq_true, Bool.or_eq_true, beq_iff_eq] at hk ⊢
      refine ⟨hk.1, .inl ?_⟩
      obtain hk | hk := hk.2
      · exact precedes_trans hk hp
      · rw [hk.1]; exact hp
  · simp [Slot.holds, h, precedes_irrefl]
  · simp [Slot.holds, h, hw, hp]

theorem count_le (t : Table) (p : Record → Bool) : t.count p ≤ 64 := by
  have := List.countP_le_length (p := fun i => (t.get i).content.any p) (l := List.finRange 64)
  simpa [Table.count] using this

/-- Steps 4 and 5 of adoption: the table, the claim clock and the fence (R9, R58, R88, R89). -/
theorem adoptTable_done {s : State} (h : s.undamaged) (epoch : Word32) :
    ∃ t, (adoptClaims epoch s).andThen adoptShadows = .done (decideFence t) ∧
      t = { s with table := t.table, clock := BitVec.ofNat 32 (s.table.count ownWaiting) } ∧ t.undamaged ∧
      ∀ i, t.record i = (s.record i).map fun r => adoptShadow s.census.previousRoster s.census.roster
        s.ctl.config.orphanHold (adoptOwn s.table epoch s.stationId i r) := by
  obtain ⟨u, h1, h2, h3, h4⟩ := pass_done h isOpenOwn (fun i r => some (adoptOwn s.table epoch s.stationId i r))
  have h5 : State.undamaged { u with clock := BitVec.ofNat 32 (s.table.count ownWaiting) } := h3
  obtain ⟨t, g1, g2, g3, g4⟩ := pass_done h5 isLive (fun _ r => some (adoptShadow u.census.previousRoster
    u.census.roster u.ctl.config.orphanHold r))
  refine ⟨t, by simp only [adoptClaims, h1, Reading.andThen, adoptShadows, g1], ?_, g3, fun i => ?_⟩
  · rw [g2, h2]
  · rw [g4]
    change (u.record i).bind _ = _
    rw [h4, h2]
    cases s.record i <;> rfl

/-- Adoption on a sound table (R9, R58, R88, R89, R141). -/
theorem adopt_adopts {s : State} (h : s.undamaged) (epoch : Word32) (members : List StationId) :
    ∃ t, adopt epoch members s = .done t ∧ Adopts epoch members s t ∧ t.fh.transit = s.fh.transit ∧
      t.fh.origination = s.fh.origination.filter (!isCensus ·) ∧
      t.fh.inSend = s.fh.inSend.map leaveIfCensus ∧ t.fh.arbiterPos = s.fh.arbiterPos ∧
      t.pending = s.pending := by
  have h0 : State.undamaged (adoptBase epoch members s) := h
  obtain ⟨u, hu, hs, hd, hrec⟩ := adoptTable_done h0 epoch
  have hs : u = { adoptBase epoch members s with
    table := u.table, clock := BitVec.ofNat 32 (s.table.count ownWaiting) } := hs
  refine ⟨markStateNow .active none (decideFence u), by rw [adopt, hu]; rfl, ?_, ?_, ?_, ?_, ?_, ?_⟩
  · have hrec : ∀ i, u.record i = (s.record i).map fun r => adoptShadow s.census.roster members
        s.ctl.config.orphanHold (adoptOwn s.table epoch s.stationId i r) := hrec
    have hcu : u.clock = BitVec.ofNat 32 (s.table.count ownWaiting) := by rw [hs]
    have hk := count_le s.table ownWaiting
    have hcl : (BitVec.ofNat 32 (s.table.count ownWaiting)).toNat = s.table.count ownWaiting := by
      rw [BitVec.toNat_ofNat]; omega
    have hwt : ∀ i r, s.record i = some r → r.kind = .own → r.state = .waiting →
        u.record i = some { newIssue r with
          identity := { epoch := epoch, count := BitVec.ofNat 32 (waitingBefore s.table i r + 1), id := s.stationId }
          issue := 0, lossCount := 0 } ∧ waitingBefore s.table i r < s.table.count ownWaiting := by
      intro i r hr hk hs
      refine ⟨?_, waitingBefore_lt hr (by simp [ownWaiting, hk, hs])⟩
      rw [hrec, hr]
      simp [adoptOwn, adoptShadow, isLive, newIssue, hk, hs]
    have hcard : ∀ n, n < 64 → (BitVec.ofNat 32 (n + 1)).toNat = n + 1 := by
      intro n hn; rw [BitVec.toNat_ofNat]; omega
    refine { census := ?_, control := ?_, outstanding := ?_, clock := (by change u.clock.toNat = _; rw [hcu]; exact hcl), waiting := ?_, order := ?_, granted := ?_,
             orphaned := ?_, live := ?_, others := ?_, free := ?_, fenced := ?_, unfenced := ?_,
             ports := ?_, sound := hd }
    · change u.census = _; rw [hs]; rfl
    · simp only [markStateNow, markState, stateMarkOf, decideFence]
      rw [hs]
      rfl
    · change u.fh.outstanding = _; rw [hs]; rfl
    · intro i r hr hk hs
      obtain ⟨h1, h2⟩ := hwt i r hr hk hs
      refine ⟨_, ?_, ?_, h1⟩
      · rw [hcard _ (by omega)]; omega
      · change _ ≤ u.clock.toNat
        rw [hcu, hcl, hcard _ (by omega)]; omega
    · intro i j r q r' q' hr hq hkr hkq hsr hsq hp hr' hq'
      obtain ⟨h1, h2⟩ := hwt i r hr hkr hsr
      obtain ⟨h3, h4⟩ := hwt j q hq hkq hsq
      cases Option.some.inj (h1.symm.trans hr')
      cases Option.some.inj (h3.symm.trans hq')
      simp only
      rw [hcard _ (by omega), hcard _ (by omega)]
      have := waitingBefore_strict (j := j) hr (by simp [ownWaiting, hkr, hsr]) hp
      omega
    · intro i r hr hk hs
      change u.record i = _
      rw [hrec, hr]
      simp [adoptOwn, adoptShadow, isLive, hk, hs]
    · intro i r hr hk hs h1 h2
      change u.record i = _
      rw [hrec, hr]
      simp [adoptOwn, adoptShadow, isLive, hk, hs, h1, h2]
    · intro i r hr hk hs h1
      change u.record i = _
      rw [hrec, hr]
      have : ¬ (r.identity.id ∈ s.census.roster ∧ r.identity.id ∉ members) := by tauto
      simp [adoptOwn, adoptShadow, isLive, hk, hs, this]
    · intro i r hr hs
      change u.record i = _
      rw [hrec, hr]
      obtain hs | hs | hs := hs <;> cases hk : r.kind <;> simp [adoptOwn, adoptShadow, isLive, hk, hs]
    · intro i hr
      change u.record i = _
      rw [hrec, hr]; rfl
    · rintro hi ⟨m, hm, hn⟩
      change (decideFence u).shadow = _
      rw [hs]
      have : (s.census.roster.any fun i => !members.contains i) = true :=
        List.any_eq_true.2 ⟨m, hm, by simpa using hn⟩
      exact congrArg (fun f => ({ s.shadow with incomplete := false, fence := f } : ShadowUnit))
        (if_pos (by rw [Bool.and_eq_true]; exact ⟨hi, this⟩))
    · intro hi
      change (decideFence u).shadow = _
      rw [hs]
      have : (s.shadow.incomplete && s.census.roster.any fun i => !members.contains i) = false := by
        obtain hi | hi := hi
        · simp [hi]
        · have : (s.census.roster.any fun i => !members.contains i) = false :=
            List.any_eq_false.2 fun x hx => by simpa using hi x hx
          rw [this, Bool.and_false]
      exact congrArg (fun f => ({ s.shadow with incomplete := false, fence := f } : ShadowUnit))
        (if_neg (by rw [Bool.not_eq_true]; exact this))
    · refine ⟨?_, ?_, ?_, ?_⟩
      · change u.up = _; rw [hs]; rfl
      · change u.down = _; rw [hs]; rfl
      · change u.scan = _; rw [hs]; rfl
      · change u.host = _; rw [hs]; rfl
  · change u.fh.transit = _; rw [hs]; rfl
  · change u.fh.origination = _; rw [hs]; rfl
  · change u.fh.inSend = _; rw [hs]; rfl
  · change u.fh.arbiterPos = _; rw [hs]; rfl
  · change u.pending = _; rw [hs]; rfl

end Sys2Proof.Machine
end

