-- ==== Sys2Proof/Laws/Events.lean ====
section
/-! SUPPORT. Laws of the events that many rows share: a command taken, a transaction, a frame taken into hand. -/

namespace Sys2Proof.Machine

/-! ### Commands and transactions -/

theorem commandGranted_iff (s : State) : commandGranted s = true ↔
    s.host.results.length < Config.resultDepth ∧ s.ctl.stateMark = none ∧ s.ctl.faultMark = none ∧
      ∀ i r, s.record i = some r → r.notice = none := by
  simp only [commandGranted, recordGranted, placeFree, Bool.and_eq_true, decide_eq_true_eq, Option.isNone_iff_eq_none,
    noticeSlot_eq_none, and_assoc]

theorem Granted.granted {s : State} {e : CommandEntry} {rest : List CommandEntry} (h : Granted s e rest) :
    commandGranted s = true := (commandGranted_iff s).2 ⟨h.place, h.stateMark, h.faultMark, h.notices⟩

/-- A command taken: its entry is removed, its body runs, its completion is placed (R170). -/
theorem takeCommand_granted {s : State} {e : CommandEntry} {rest : List CommandEntry} (h : Granted s e rest)
    {which : Option HostCommand} (hw : hostCommand (byteAt e.bytes 0) = which)
    (body : CommandEntry → State → Completion × State) :
    takeCommand which body s =
      placeCompletion e (body e { s with host := { s.host with commands := rest } }).1
        (body e { s with host := { s.host with commands := rest } }).2 := by
  simp [takeCommand, h.head, h.granted, hw]

/-- A command that is not granted, or not at the head, is not taken (notes/assumptions/2.md). -/
theorem takeCommand_idle {s : State} {which : Option HostCommand}
    (h : ∀ e rest, Granted s e rest → hostCommand (byteAt e.bytes 0) ≠ which)
    (body : CommandEntry → State → Completion × State) : takeCommand which body s = s := by
  unfold takeCommand
  split
  · rfl
  · rename_i e rest hc
    split
    · rename_i hg
      obtain ⟨h1, h2, h3, h4⟩ := (commandGranted_iff s).1 hg.1
      exact absurd hg.2 (h e rest ⟨hc, h1, h2, h3, h4⟩)
    · rfl

/-- A transaction of any row begins with the status byte fixed (R163, R166). -/
theorem transact_fall {s : State} (h : s.resetn = true) (hn : s.host.spi = none) (k : Transaction) :
    transact k .fall s = { s with host := { s.host with
      spi := some { status := statusByte s, code := none, reply := [], headShown := false } } } := by
  simp [transact, spiFall, h, hn]

theorem transactionOf_code (k : Transaction) : transactionOf (transactionCode k) = some k := by
  cases k <;> decide

/-- The code byte of a row fixes the reply (R165). -/
theorem transact_code {s : State} {x : Transfer} (h : s.host.spi = some x) (hc : x.code = none) (k : Transaction) :
    transact k (.code (transactionCode k)) s = codeByteEffect k { s with host := { s.host with
      spi := some { x with
        code := some (transactionCode k), reply := replyBytes s k
        headShown := k == .readResult && !s.host.results.isEmpty } } } := by
  simp [transact, spiCode, h, hc, eventFits, transactionOf_code]

/-- A row's transaction ends: its effect when it is complete, and none when it is short (R165). -/
theorem transact_rise {s : State} {x : Transfer} {k : Transaction} (h : s.host.spi = some x)
    (hc : x.code = some (transactionCode k)) (data : List Byte) :
    transact k (.rise data) s = endTransfer x data.length
      (if bytesNeeded k ≤ data.length then closeEffect k x.headShown data s else s) := by
  simp [transact, spiRise, h, hc, transactionOf_code]

/-! ### The frame in hand -/

/-- What the queue of a frame taken into hand is. -/
def inHand (s : State) (ready : List TransitEntry) (f : Frame) (later : List TransitEntry) : State :=
  { s with fh := { s.fh with transit := ready ++ { frame := f, cond := .inHand } :: later } }

theorem takeOldest_takes {ready : List TransitEntry} (h : ∀ e ∈ ready, e.cond = .ready) (f : Frame)
    (later : List TransitEntry) :
    takeOldest (ready ++ { frame := f, cond := .awaiting } :: later) =
      some (f, ready ++ { frame := f, cond := .inHand } :: later) := by
  induction ready with
  | nil => rfl
  | cons e es ih =>
    have he := h e (by simp)
    simp [takeOldest, he, ih fun x hx => h x (by simp [hx])]

theorem find_inHand_none {l : List TransitEntry} (h : ∀ e ∈ l, e.cond ≠ .inHand) :
    (l.find? fun e => e.cond == .inHand) = none := by
  simpa using h

/-- Taking the oldest awaiting frame runs the tests of R114 on it. -/
theorem frameTaking_takes {s : State} {ready later : List TransitEntry} {f : Frame} (h : Takes s ready f later) :
    execFrameTaking s = .next ((processHand f (inHand s ready f later)).settle) := by
  have hh : handFrame s = none := by
    rw [handFrame, find_inHand_none]
    · rfl
    · intro e he
      rw [h.queue] at he
      obtain he | he := List.mem_append.1 he
      · simp [h.before e he]
      · obtain rfl | he := List.mem_cons.1 he
        · simp
        · simp [h.after e he]
  simp only [execFrameTaking, h.ring, hh, h.queue, takeOldest_takes h.before]
  rfl

theorem filter_inHand {ready later : List TransitEntry} (h : ∀ e ∈ ready, e.cond = .ready)
    (h' : ∀ e ∈ later, e.cond = .awaiting) (f : Frame) :
    (ready ++ { frame := f, cond := .inHand } :: later).filter (fun e => e.cond != .inHand) = ready ++ later := by
  have h1 : ready.filter (fun e => e.cond != .inHand) = ready :=
    List.filter_eq_self.2 fun e he => by simp [h e he]
  have h2 : later.filter (fun e => e.cond != .inHand) = later :=
    List.filter_eq_self.2 fun e he => by simp [h' e he]
  simp [List.filter_append, h1, h2]

/-- The frame in hand leaves its queue, whatever became of the rest of the state (R103, R113). -/
theorem dropHand_hand {s : State} {ready later : List TransitEntry} {f : Frame}
    (h : ∀ e ∈ ready, e.cond = .ready) (h' : ∀ e ∈ later, e.cond = .awaiting)
    (hq : s.fh.transit = ready ++ { frame := f, cond := .inHand } :: later) :
    dropHand s = leftQueue s ready later := by
  have hn : ready.length + (later.length + 1) - (ready.length + later.length) = 1 := by omega
  simp [dropHand, hq, filter_inHand h h', returnTokens, leftQueue, hn]

/-- The frame in hand is marked ready, whatever became of the rest of the state (R120). -/
theorem readyHand_hand {s : State} {ready later : List TransitEntry} {f : Frame} (g : Frame)
    (h : ∀ e ∈ ready, e.cond = .ready) (h' : ∀ e ∈ later, e.cond = .awaiting)
    (hq : s.fh.transit = ready ++ { frame := f, cond := .inHand } :: later) :
    readyHand g s = forwarded s ready g later := by
  have h1 : ready.map (fun e => if e.cond = .inHand then { frame := { g with hop := g.hop + 1 }, cond := .ready } else e)
      = ready := (List.map_congr_left fun e he => by simp [h e he]).trans (List.map_id _)
  have h2 : later.map (fun e => if e.cond = .inHand then { frame := { g with hop := g.hop + 1 }, cond := .ready } else e)
      = later := (List.map_congr_left fun e he => by simp [h' e he]).trans (List.map_id _)
  simp only [readyHand, hq, forwarded, List.map_append, List.map_cons, h1, h2, if_true]

end Sys2Proof.Machine
end

