-- ==== Sys2Proof/Tests/Slice0.lean ====
section
/-! SUPPORT. Tests: well-formedness, values the data book prints, one step of every command, and states that meet
the hypotheses of the statements. -/

namespace Sys2Proof.Tests

open Sys2Proof.Machine

set_option Elab.async false

/-! ### Helpers -/

/-- Configuration of the station under test: station 3. -/
def config : Configuration :=
  { stationId := 3, term := 1000, warning := 100, ballotLimit := 10, formationLimit := 200, orphanHold := 500 }

/-- A station of epoch 5 on the roster 1, 3, 7, in a state of the ring, both ports UP. -/
def station (st : StationState) : State :=
  { State.reset with
    up := { State.reset.up with link := .up, receiveLock := true, farLock := true }
    down := { State.reset.down with link := .up, receiveLock := true, farLock := true, credit := 8 }
    clock := 40
    census := { State.reset.census with
      epoch := 5, roster := [1, 3, 7], previousRoster := [1, 3], bestKey := some { epoch := 5, origin := 1 } }
    ctl := { State.reset.ctl with state := st, configured := true, config := config, bypassn := true }
    host := { State.reset.host with results := [] } }

/-- The station with a command record waiting, filled up with bytes of value 0. -/
def asked (bytes : List Byte) (s : State) : State :=
  { s with host := { s.host with
      commands := [{ bytes := bytes ++ List.replicate (20 - bytes.length) 0, seq := 7 }] } }

/-- The command record of `asked`. -/
def entry (bytes : List Byte) : CommandEntry :=
  { bytes := bytes ++ List.replicate (20 - bytes.length) 0, seq := 7 }

/-- The station with one frame awaiting. -/
def arriving (f : Frame) (s : State) : State :=
  { s with fh := { s.fh with transit := [{ frame := f, cond := .awaiting }] } }

/-- A claim of station 3 over the units 100 to 199, SHARED, epoch 5, count 9. -/
def claim : Record := newClaim { epoch := 5, count := 9, id := 3 } .shared { first := 100, last := 199 } 77 false 0

/-- The claim with its ballot on the ring. -/
def sent : Record := { claim with due := none, mainTimer := some 4 }

/-- The claim GRANTED. -/
def lease : Record := { claim with state := .granted, due := none, mainTimer := some 600 }

/-- A LIVE shadow of a lease of station 7. -/
def live : Record :=
  { lease with
    kind := .shadow, state := .live, tag := 0, identity := { epoch := 4, count := 2, id := 7 }, announcedTerm := 600 }

/-- A frame of the given origin and epoch 5. -/
def frame (origin : StationId) (body : Body) : Frame :=
  { origin := origin, duplicate := false, overfull := false, hop := 1, epoch := 5, body := body }

/-- A ballot of count 9, issue 0, over the units 150 to 250, EXCLUSIVE. -/
def ballot : Ballot :=
  { count := 9, issue := 0, mode := 2, range := { first := 150, last := 250 }, visited := 0x82, objectors := 0 }

/-- The state after a command. -/
def after (c : Instr) (s : State) : State :=
  match exec c s with
  | .next t => t
  | _ => s

/-- The station with a transaction in progress. -/
def shifting (x : Transfer) (s : State) : State := { s with host := { s.host with spi := some x } }

/-- The state after a whole transaction of a row: its status byte and code byte, and the data bytes. -/
def transferred (row : SpiEvent → Instr) (code : Byte) (data : List Byte) (s : State) : State :=
  after (row (.rise data)) (after (row (.code code)) (after (row .fall) s))

/-- What holds of the content of every slot holds of every record. -/
theorem all_records {s : State} {p : Record → Bool}
    (h : ∀ i, ((s.table.get i).content.all p) = true) {i : SlotNo} {r : Record} (hr : s.record i = some r) :
    p r = true := by
  have := h i
  simp only [State.record] at hr
  simpa [hr] using this

/-- A command waits and the arbiter grants it. -/
theorem asked_granted {s : State} (bytes : List Byte) (h : s.host.results.length < 32) (h1 : s.ctl.stateMark = none)
    (h2 : s.ctl.faultMark = none) (h3 : ∀ i, ((s.table.get i).content.all fun r => r.notice.isNone) = true) :
    Granted (asked bytes s) (entry bytes) [] :=
  ⟨rfl, h, h1, h2, fun _ _ hr => by simpa using all_records (s := s) h3 hr⟩

/-- One awaiting frame is the frame taken. -/
theorem arriving_takes {s : State} (f : Frame) (h : inRing s.ctl.state = true) : Takes (arriving f s) [] f [] :=
  ⟨h, rfl, by simp, by simp⟩

/-- A state whose slots are all sound is undamaged. -/
theorem sound_of {s : State} (h : ∀ i, (s.table.get i).damaged = false) : s.undamaged := h

/-! ### Well-formedness -/

theorem test_alignment_needs_eight :
    (Instr.receiveLockGained .upstream (List.replicate 7 (controlGroup .idle))).wellFormed = false := by decide
theorem test_alignment_needs_code :
    (Instr.receiveLockGained .upstream (List.replicate 8 0x3FF)).wellFormed = false := by decide
theorem test_alignment_given :
    (Instr.receiveLockGained .upstream (List.replicate 8 (controlGroup .train))).wellFormed = true := by decide
theorem test_loss_needs_violation :
    (Instr.receiveLockLost .downstream (.violation false (controlGroup .token))).wellFormed = false := by decide
theorem test_far_lock_needs_normal :
    (Instr.farLockSet .upstream false (controlGroup .train)).wellFormed = false := by decide

/-- READ_RESULT's code byte is no event of WRITE_COMMAND; a byte that is no transaction code may come with any row. -/
theorem test_code_of_its_row :
    (Instr.writeCommand (.code 0x20)).wellFormed = false ∧ (Instr.writeCommand (.code 0x10)).wellFormed = true ∧
    (Instr.writeCommand (.code 0x22)).wellFormed = true := by decide

/-! ### Values the data book prints -/

/-- R183: the check over the nine bytes 31h to 39h. -/
theorem test_crc_example : crc16 [0x31, 0x32, 0x33, 0x34, 0x35, 0x36, 0x37, 0x38, 0x39] = 0x29B1 := by decide +kernel

/-- 6.9: a bad frame raises the run and returns a TOKEN; the fourth in a run sends the port to TRAINING, the run at 4. -/
theorem test_bad_frame :
    (after (.frameArrival [0, 0, 0]) (station .active)).up.badRun = 1 ∧
    (after (.frameArrival [0, 0, 0]) (station .active)).up.sent = [.token] := by decide +kernel
theorem test_fourth_bad_frame :
    let s := { station .active with up := { (station .active).up with badRun := 3 } }
    (after (.frameArrival [0, 0, 0]) s).up.badRun = 4 ∧ (after (.frameArrival [0, 0, 0]) s).up.link = .training ∧
    (after (.frameArrival [0, 0, 0]) s).up.sent = [] ∧
    (after (.frameArrival [0, 0, 0]) s).down.sent = [.rebase] ∧
    (after (.frameArrival [0, 0, 0]) s).ctl.state = .forming := by decide +kernel
/-- 6.9: a good ANNOUNCE ends the run and holds a slot. -/
theorem test_good_frame :
    let s := { station .active with up := { (station .active).up with badRun := 2 } }
    let t := after (.frameArrival (frameBytes (frame 7 (.ballot ballot)))) s
    t.up.badRun = 0 ∧ t.fh.transit.length = 1 ∧ t.up.sent = [] := by decide +kernel

/-! ### One step of each command -/

/-- 12.9: with the fence active a CLAIM over (5000, 5099), SHARED, tag 44, stands WAITING(LOCAL) with count 2, the clock
having been 1. -/
theorem test_claim_fenced :
    let s := { asked [0x40, 0, 0, 44, 1, 0, 0, 0, 0x13, 0x88, 0, 0, 0, 0x13, 0xEB, 0, 0] (station .active) with
      clock := 1
      shadow := { incomplete := false, fence := some 3000, fenceObjected := true, fenceEndDue := false } }
    (after .claim s).clock = 2 ∧ ((after .claim s).record 0).map Record.waitCause = some (some .localScan) ∧
    ((after .claim s).record 0).map Record.range = some { first := 5000, last := 5099 } ∧
    (after .claim s).host.results = [.completion .ok 0x40 7 0 44] := by decide +kernel
theorem test_claim_clear :
    let s := asked [0x40, 0, 0, 44, 1, 0, 0, 0, 0x13, 0x88, 0, 0, 0, 0x13, 0xEB, 0, 0] (station .active)
    ((after .claim s).record 0).map Record.due = some (some .ballot) ∧
    ((after .claim s).record 0).map Record.identity = some { epoch := 5, count := 41, id := 3 } := by decide +kernel

/-- R163: RESETN low holds the part with INTN high; its rise places STARTED with cause PIN. -/
theorem test_resetn :
    (after .resetn (station .active)).intn = true ∧ (after .resetn (station .active)).ctl.state = .unconfigured ∧
    (after .resetn (after .resetn (station .active))).host.results = [.started .pin] := by decide +kernel
theorem test_station_reset :
    (transferred .stationReset 0xA5 [0] (station .active)).host.results = [.started .host] ∧
    (transferred .stationReset 0xA5 [] (station .active)).ctl.state = .active := by decide +kernel
theorem test_write_command :
    (transferred .writeCommand 0x10 (List.replicate 20 1) (station .active)).host.commands.length = 1 ∧
    (transferred .writeCommand 0x10 (List.replicate 19 1) (station .active)).host.commands = [] := by decide +kernel
/-- R175, 11.3: STARTED with cause 1 is the record 03h, 1, 1. -/
theorem test_read_result :
    (transferred .readResult 0x20 (List.replicate 16 0) State.reset).host.sdo.take 4 = [0x80, 3, 1, 1] ∧
    (transferred .readResult 0x20 (List.replicate 16 0) State.reset).host.results = [] := by decide +kernel
theorem test_read_status :
    (transferred .readStatus 0x21 (List.replicate 4 0) (asked [0x40] (station .active))).host.sdo = [2, 2, 1, 0, 2] := by
  decide +kernel
/-- R166, R167: a notice drained between the fall of CSN and the code byte shows in byte 0 and not in the status byte. -/
theorem test_read_status_later :
    let s := after .stationNoticeDrain (after (.readStatus .fall) (markFault .ringOverfull (station .forming)))
    (after (.readStatus (.rise (List.replicate 4 0))) (after (.readStatus (.code 0x21)) s)).host.sdo =
      [0x01, 0x81, 0, 1, 1] := by decide +kernel
theorem test_write_index : (transferred .writeIndex 0x30 [3, 63, 4] (station .active)).host.index =
    { space := .record, slot := 63, group := 4 } := by decide +kernel
/-- R179, R186: STATION group 0 of an ACTIVE station; the index goes on to group 1. -/
theorem test_read_window :
    (transferred .readWindow 0x31 (List.replicate 8 0) (station .active)).host.sdo = [2, 2, 3, 3, 0, 0, 0, 3, 2] ∧
    (transferred .readWindow 0x31 (List.replicate 8 0) (station .active)).host.index.group = 1 := by decide +kernel
theorem test_configure :
    let s := asked [1, 3, 0x03, 0xE8, 0, 100, 10, 0, 200, 1, 0xF4] { State.reset with host := (station .active).host }
    (after .configure s).ctl.config = config ∧ (after .configure s).up.link = .training := by decide +kernel
theorem test_cancel : (after .cancel (asked [0x41, 0] (writeRecord 0 claim (station .active)))).record 0 = none := by
  decide +kernel
theorem test_release :
    ((after .release (asked [0x42, 0] (writeRecord 0 lease (station .active)))).record 0).map Record.due =
      some (some (.release .released)) := by decide +kernel
theorem test_renew :
    ((after .renew (asked [0x43, 0] (writeRecord 0 lease (station .active)))).record 0).map Record.mainTimer =
      some (some 1000) := by decide +kernel
theorem test_resync : (after .resync (asked [0x50] (station .active))).census.bestKey =
    some { epoch := 6, origin := 3 } := by decide +kernel
theorem test_leave : (after .leave (asked [0x51] (writeRecord 0 lease (station .active)))).ctl.leaveTimer =
    some 200 := by decide +kernel
theorem test_unknown : (after .unknownCommand (asked [0x44] State.reset)).host.results.length = 2 := by decide +kernel
theorem test_record_notice :
    (after .recordNoticeDrain (writeRecord 0 (setNotice .granted lease) (station .active))).host.results =
      [.recordNotice .granted false 0 77 .granted 600] := by decide +kernel
theorem test_station_notice :
    (after .stationNoticeDrain (markFault .ringOverfull (station .forming))).host.results =
      [.fault .ringOverfull false] := by decide +kernel
theorem test_tick :
    ((after .tick (writeRecord 0 { lease with mainTimer := some 101 } (station .active))).record 0).map Record.notice =
      some (some { notice := .termLow, replaced := false }) := by decide +kernel
theorem test_ballot_timer :
    ((after (.ballotTimerExpiry 0) (writeRecord 0 { sent with mainTimer := some 0 } (station .active))).record 0).map
      Record.issue = some 1 := by decide +kernel
theorem test_wait_limit :
    ((after (.waitLimitExpiry 0) (writeRecord 0 { claim with waitLimit := some 0 } (station .active))).record 0).map
      Record.outcome = some (some (.failed .timeout)) := by decide +kernel
theorem test_term :
    ((after (.termExpiry 0) (writeRecord 0 { lease with mainTimer := some 0 } (station .active))).record 0).map
      Record.due = some (some (.release .expired)) := by decide +kernel
theorem test_shadow_timer :
    (after (.shadowTimerExpiry 0) (writeRecord 0 { live with mainTimer := some 0 } (station .active))).record 0 = none := by
  decide +kernel
theorem test_fence :
    let s := { station .active with
      shadow := { incomplete := false, fence := some 0, fenceObjected := true, fenceEndDue := false } }
    (after .fenceExpiry s).shadow.fence = none ∧ (after .fenceExpiry s).shadow.fenceEndDue = true := by decide +kernel
/-- A station that forms, its census retry timer at 0 and its formation timer at 0. -/
def forming : State :=
  { station .forming with census := { (station .forming).census with
      bestKey := some { epoch := 6, origin := 7 }, retryTimer := some 0, formationTimer := some 0 } }
theorem test_census_retry : (after .censusRetryExpiry forming).census.bestKey = some { epoch := 7, origin := 3 } := by
  decide +kernel
theorem test_formation : (after .formationTimerExpiry forming).ctl.state = .isolated := by decide +kernel
/-- A station that leaves, its leave timer at 0. -/
def leaving : State := { station .leaving with ctl := { (station .leaving).ctl with leaveTimer := some 0 } }
theorem test_leave_timer : (after .leaveTimerExpiry leaving).ctl.leaveOutcome = some .timedOut := by decide +kernel
theorem test_drain : (after .drainCompletion leaving).ctl.leaveOutcome = some .clean := by decide +kernel
/-- A configured station in a state of the ring, both ports in the given link state. -/
def linked (l : LinkState) (st : StationState) : State :=
  { station st with
    up := { (station st).up with link := l }
    down := { (station st).down with link := l, credit := 0 } }
theorem test_lock_gained :
    (after (.receiveLockGained .upstream (List.replicate 8 (controlGroup .train))) (linked .training .forming)).up.link =
      .creditWait := by decide +kernel
theorem test_lock_lost : (after (.receiveLockLost .downstream .laneQuiet) (station .active)).down.link = .training := by
  decide +kernel
theorem test_far_set :
    let s := { station .forming with up := { State.reset.up with link := .training, receiveLock := true } }
    (after (.farLockSet .upstream false (controlGroup .idle)) s).up.farLock = true := by decide +kernel
theorem test_far_clear : (after (.farLockClear .upstream) (station .active)).ctl.state = .forming := by decide +kernel
theorem test_token :
    (after .token { station .active with down := { (station .active).down with credit := 7 } }).down.credit = 8 ∧
    (after .token (station .active)).down.credit = 8 := by decide +kernel
theorem test_advertise : (after .advertise (linked .creditWait .forming)).down.credit = 8 := by decide +kernel
theorem test_rebase : (after .rebase (station .active)).up.advertisementOwed = true := by decide +kernel
theorem test_advertise_send :
    let s := linked .creditWait .forming
    (after .advertiseSend { s with up := { s.up with advertisementOwed := true } }).up.sent = [.advertise] := by
  decide +kernel
/-- R41, R42: a genuine return without objector grants. -/
theorem test_return :
    ((after .frameTaking (arriving (frame 3 (.ballot ballot)) (writeRecord 0 sent (station .active)))).record 0).map
      Record.state = some .granted := by decide +kernel
/-- R68: a GRANTED lease in conflict objects. -/
theorem test_scan :
    let t := after .frameTaking (arriving (frame 7 (.ballot ballot)) (writeRecord 0 lease (station .active)))
    (after .scanVisit t).scan = some { nextSlot := 1, objection := true } ∧ t.scan = some { nextSlot := 0, objection := false } := by
  decide +kernel
theorem test_due_service :
    (after .dueService (writeRecord 0 claim (station .active))).fh.origination.length = 1 := by decide +kernel
/-- 7.7: with both candidates eligible and position 4 the originated frame goes. -/
theorem test_arbiter :
    let s := { station .active with fh := { State.reset.fh with
      transit := [{ frame := frame 7 (.ballot ballot), cond := .ready }]
      origination := [frame 3 (.ballot ballot)], arbiterPos := 4 } }
    (after .arbiterChoice s).fh.inSend.map InSend.source = some .origination ∧
    (after .arbiterChoice s).fh.arbiterPos = 0 := by decide +kernel
theorem test_departure :
    let s := { writeRecord 0 { sent with mainTimer := none } (station .active) with fh := { State.reset.fh with
      origination := [frame 3 (.ballot ballot)]
      inSend := some { frame := frame 3 (.ballot ballot), source := .origination, bytes := [], left := false,
                       rebases := 0 } } }
    (after .frameDeparture s).down.credit = 7 ∧ (after .frameDeparture s).fh.outstanding = 1 ∧
    ((after .frameDeparture s).record 0).map Record.mainTimer = some (some 10) := by decide +kernel

/-- R102, R104, R105: a departure ahead of a waiting REBASE leaves credit 0 at 0, and takes 1 of the 8 an ADVERTISE gave. -/
theorem test_departure_rebase :
    let s (l : LinkState) : State := { linked l .forming with fh := { State.reset.fh with
      inSend := some { frame := frame 7 (.ballot ballot), source := .transit, bytes := [], left := true,
                       rebases := 1 } } }
    (after .frameDeparture (s .creditWait)).down.credit = 0 ∧
    (after .frameDeparture (s .creditWait)).down.sent = [.frame [], .rebase] ∧
    (after .frameDeparture (after .advertise (s .creditWait))).down.credit = 7 := by decide +kernel

/-! ### States that meet the hypotheses of the statements -/

/-- The station with a table of one record in every slot from 0 to `n - 1`. -/
def filled (n : Fin 65) (r : Record) (s : State) : State :=
  { s with table := {
      slots := List.replicate n.val { content := some r, damaged := false } ++ List.replicate (64 - n.val) Slot.free
      size := by simp; omega } }

/-- The station with a slot holding a record and its content out of agreement with its check value. -/
def corrupt (i : SlotNo) (r : Record) (s : State) : State :=
  { s with table := s.table.set i { content := some r, damaged := true } }

/-- A damaged slot holds its record, and the other slots are as they were. -/
theorem corrupt_situation (i : SlotNo) (r : Record) (s : State) :
    ((corrupt i r s).table.get i).damaged = true ∧ (corrupt i r s).record i = some r ∧
    ∀ j, j ≠ i → (corrupt i r s).table.get j = s.table.get j :=
  ⟨by simp [corrupt], by simp [corrupt, State.record], fun j hj => by simp [corrupt, Ne.symm hj]⟩

/-- A station with a command waiting and no notice mark in its table. -/
theorem granted_of {s : State} {e : CommandEntry} (h : s.host.commands = [e]) (hp : s.host.results.length < 32)
    (h1 : s.ctl.stateMark = none) (h2 : s.ctl.faultMark = none)
    (h3 : ∀ i, ((s.table.get i).content.all fun r => r.notice.isNone) = true) : Granted s e [] :=
  ⟨h, hp, h1, h2, fun _ _ hr => by simpa using all_records (s := s) h3 hr⟩

/-- The station with one record, in slot 0. -/
def holding (r : Record) (st : StationState) : State := writeRecord 0 r (station st)

/-- No record blocks a claim when none conflicts. -/
theorem not_blocked {s : State} {i : SlotNo} {stamp : Stamp} {range : Range} {mode : Mode}
    (h : ∀ j, ((s.table.get j).content.all fun r => !conflicts r.range r.mode range mode) = true) :
    ¬ blocks s i stamp range mode := by
  rintro ⟨j, r, -, hr, hc, -⟩
  have := all_records h hr
  simp [hc] at this

theorem witness_OverlapTest : (⟨7, 7⟩ : Range).first.toNat ≤ (⟨7, 7⟩ : Range).last.toNat := by decide
theorem witness_ConflictTest :
    objectsTo (frame 7 (.ballot ballot)) ballot lease = true ∧
    standsInTheWay { epoch := 5, count := 9, id := 7 } ⟨199, 300⟩ .exclusive lease = true ∧
    (enterWaiting .remote claim).kind = .own ∧ (enterWaiting .remote claim).state = .waiting ∧
    overlaps (enterWaiting .remote claim).range ⟨199, 199⟩ = true ∧ claim.kind = .own ∧ claim.state = .pending := by decide
theorem witness_StampAndKeyOrder :
    (⟨5, 9, 3⟩ : Stamp) ≠ ⟨5, 9, 7⟩ ∧ precedes ⟨5, 9, 3⟩ ⟨5, 9, 7⟩ = true ∧ precedes ⟨5, 9, 7⟩ ⟨5, 10, 0⟩ = true ∧
    (⟨5, 3⟩ : Key) ≠ ⟨5, 7⟩ := by decide
theorem witness_FrameSentIsFrameRead :
    frameFits (frame 1 (.census [1])) ∧ frameFits (frame 1 (.roster (List.replicate 16 4))) ∧
    frameFits (frame 1 (.ballot ballot)) := by
  refine ⟨?_, ?_, trivial⟩ <;> simp [frameFits, frame]
theorem witness_WrongCheckIsBad : (0 : Word16) ≠ crc16 [] := by decide
theorem witness_LaneFrameArrives :
    (0x201 : LaneGroup).getLsbD 9 = (0x201 : LaneGroup).getLsbD 0 ∧
    (0x000 : LaneGroup).getLsbD 9 = (0x000 : LaneGroup).getLsbD 0 ∧
    ∀ bytes, some (.cutOff bytes) ∉ [some ForwardItem.rebase, none, some (.frame [1])] :=
  ⟨by decide, by decide, fun _ => by simp⟩
theorem witness_StepTakesFrontCommand :
    State.pending { State.reset with pending := [.tick, .token] } = .tick :: [.token] := rfl
theorem witness_EmptyQueueCountsRefclk :
    let s (n : Nat) : State := { State.reset with ctl := { State.reset.ctl with tickCounter := n } }
    (s 24998).pending = [] ∧ (s 24998).ctl.tickCounter + 1 < 25000 ∧ 25000 ≤ (s 24999).ctl.tickCounter + 1 ∧
    (s 0).resetn = true ∧ State.heldReset.pending = [] ∧ State.heldReset.resetn = false := by decide
theorem witness_EveryCommandAnswers : (Instr.receiveLockGained .upstream []).wellFormed = false := by decide
theorem witness_ResetValues :
    State.reset.resetn = true ∧ State.heldReset.resetn = false ∧ Instr.tick ≠ .resetn ∧
    (shifting { status := 2, code := some 0xA5, reply := [], headShown := false } (station .active)).host.spi =
      some { status := 2, code := some 0xA5, reply := [], headShown := false } := ⟨rfl, rfl, by simp, rfl⟩
theorem witness_StatusByteShown :
    let x (c : Option Byte) : Transfer := { status := 2, code := c, reply := [], headShown := false }
    (State.reset.resetn = true ∧ State.reset.host.spi = none) ∧
    (∀ c, (shifting (x c) (station .active)).host.spi = some (x c)) ∧ (x (some 0x10)).code = some 0x10 ∧
    0x10 = transactionCode .writeCommand ∧ transactionOf 0x22 = none ∧ SpiEvent.code 0x10 ≠ .fall ∧
    State.heldReset.resetn = false := ⟨⟨rfl, rfl⟩, fun _ => rfl, rfl, rfl, by decide, by simp, rfl⟩
theorem witness_ShortTransactionIgnored :
    let x (c : Option Byte) : Transfer := { status := 2, code := c, reply := [], headShown := false }
    (∀ c, (shifting (x c) (station .active)).host.spi = some (x c)) ∧
    (x (some 0x10)).code = some (transactionCode .writeCommand) ∧
    (List.replicate 19 (0 : Byte)).length < bytesNeeded .writeCommand ∧
    (0x22 : Byte) ∉ ([0x10, 0x20, 0x21, 0x30, 0x31, 0xA5] : List Byte) := ⟨fun _ => rfl, rfl, by decide, by decide⟩
theorem witness_WriteCommandAcceptsOrDiscards :
    let s (n : Nat) : State := shifting { status := 2, code := some 0x10, reply := [], headShown := false }
      { State.reset with host := { State.reset.host with commands := List.replicate n (entry []) } }
    20 ≤ (List.replicate 20 (0 : Byte)).length ∧ (s 7).host.commands.length < 8 ∧ 8 ≤ (s 8).host.commands.length ∧
    (s 8).host.spi = some { status := 2, code := some 0x10, reply := [], headShown := false } := by decide
theorem witness_ReadResultAndStatus :
    let x (c : Option Byte) (n : Nat) : Transfer :=
      { status := 2, code := c, reply := List.replicate n 0, headShown := false }
    (∀ c n, (shifting (x c n) State.reset).host.spi = some (x c n)) ∧ (x none 0).code = none ∧
    (x (some 0x20) 16).reply.length = 16 ∧ (x (some 0x21) 4).reply.length = 4 := by
  exact ⟨fun _ _ => rfl, rfl, rfl, rfl⟩
theorem witness_WriteIndexTested :
    (shifting { status := 2, code := some 0x30, reply := [], headShown := false } State.reset).host.spi =
      some { status := 2, code := some 0x30, reply := [], headShown := false } ∧
    (0x03 : Byte) = (match WindowSpace.record with
      | .station => 0x01
      | .link => 0x02
      | .record => 0x03) ∧ (63 : Byte).toNat = (63 : SlotNo).val ∧ (4 : Byte).toNat ≤ 4 ∧
    (3 < (4 : Byte).toNat ∧ 63 < (64 : Byte).toNat ∧ 6 < (7 : Byte).toNat ∧ 1 < (2 : Byte).toNat ∧
      4 < (5 : Byte).toNat) := by decide
theorem witness_ReadWindowShowsAndAdvances :
    let x (c : Option Byte) : Transfer :=
      { status := 2, code := c, reply := List.replicate 8 0, headShown := false }
    let s (g : Nat) : State := shifting (x none) { State.reset with host := { State.reset.host with
      index := { space := .record, slot := 63, group := g } } }
    (s 3).host.spi = some (x none) ∧ (x (some 0x31)).reply.length = 8 ∧ (holding lease .active).record 0 = some lease ∧
    (s 3).host.index.space = .record ∧ ((s 3).table.get 63).damaged = false ∧
    (s 3).host.index.group < lastGroup .record ∧ lastGroup .record ≤ (s 4).host.index.group ∧
    (s 4).record 63 = none := by decide +kernel
theorem witness_WindowReadChecksSlot :
    let x : Transfer := { status := 2, code := none, reply := [], headShown := false }
    let s (st : StationState) : State := shifting x { corrupt 0 lease (station st) with host := { (station st).host with
      index := { space := .record, slot := 0, group := 0 } } }
    (s .active).host.spi = some x ∧ x.code = none ∧ (s .active).host.index.space = .record ∧ ((s .active).table.get 0).damaged = true ∧
    (s .active).ctl.state ≠ .halted ∧ ((s .halted).table.get 0).damaged = true ∧
    (s .halted).ctl.state = .halted := by decide +kernel
theorem witness_HostPortFrame :
    exec .unknownCommand State.reset = .next State.reset ∧ Instr.unknownCommand ≠ .resetn ∧
    (∀ data, Instr.unknownCommand ≠ .stationReset (.rise data)) ∧ (∀ k e, Instr.unknownCommand ≠ spiRow k e) ∧
    Instr.unknownCommand ≠ .configure := by
  exact ⟨rfl, by decide, fun _ => by simp, fun k _ => by cases k <;> simp [spiRow], by decide⟩

@[simp] theorem station_record (st : StationState) (i : SlotNo) : (station st).record i = none := by
  simp [station, State.record, State.reset, State.afterReset, Slot.free]
theorem station_sound (st : StationState) : (station st).undamaged := fun i => by
  simp [station, State.reset, State.afterReset, Slot.free]
theorem station_ownCount (st : StationState) : ownCount (station st) = 0 := Table.count_allFree _

/-- A command of the ring's station is granted. -/
theorem station_granted (bytes : List Byte) (st : StationState) :
    Granted (asked bytes (station st)) (entry bytes) [] :=
  asked_granted bytes (by show (0 : Nat) < 32; omega) rfl rfl fun i => by
    simp [station, State.reset, State.afterReset, Slot.free]

/-- A command is granted while the table holds one record with no notice. -/
theorem record_granted (bytes : List Byte) (st : StationState) (r : Record) (h : r.notice = none) :
    Granted (asked bytes (writeRecord 0 r (station st))) (entry bytes) [] :=
  asked_granted bytes (by show (0 : Nat) < 32; omega) rfl rfl fun i => by
    simp only [writeRecord, Table.get_set]
    split
    · simp [h]
    · simp [station, State.reset, State.afterReset, Slot.free]

theorem witness_OneCompletionPerCommand :
    Granted (asked [0x50] (station .active)) (entry [0x50]) [] ∧
    commandRow .resync = some (some .resync) ∧ hostCommand (byteAt (entry [0x50]).bytes 0) = some .resync ∧
    commandRow .leave = some (some .leave) ∧
    ∀ e rest, Granted (asked [0x50] (station .active)) e rest →
      hostCommand (byteAt e.bytes 0) ≠ some .leave := by
  refine ⟨station_granted _ _, rfl, by decide, rfl, fun e rest h => ?_⟩
  have : [entry [0x50]] = e :: rest := h.head
  injection this with h1 h2
  subst h1
  decide
theorem witness_UnknownAndUnconfigured :
    Granted (asked [0x44] (station .active)) (entry [0x44]) [] ∧
    byteAt (entry [0x44]).bytes 0 ∉ ([0x01, 0x40, 0x41, 0x42, 0x43, 0x50, 0x51] : List Byte) ∧
    ∀ code : Byte, Granted (asked [code] State.reset) (entry [code]) [] ∧
      byteAt (entry [code]).bytes 0 = code ∧ (asked [code] State.reset).ctl.configured = false :=
  ⟨station_granted _ _, by decide, fun code => ⟨asked_granted _ (by decide) rfl rfl fun i => by
    simp [State.reset, State.afterReset, Slot.free], rfl, rfl⟩⟩
theorem witness_ConfigureDecides :
    let good : List Byte := [1, 15, 0, 100, 0, 99, 2, 0, 20, 0, 21]
    let bad : List Byte := [1, 16, 0, 100, 0, 99, 2, 0, 20, 0, 21]
    configureFields (entry good).bytes = some {
      stationId := 15, term := 100, warning := 99, ballotLimit := 2, formationLimit := 20, orphanHold := 21 } ∧ configureFields (entry bad).bytes = none ∧
    (∀ bytes, Granted (asked bytes State.reset) (entry bytes) [] ∧ (asked bytes State.reset).ctl.configured = false ∧
      (asked bytes State.reset).ctl.state = .unconfigured) ∧
    (Granted (asked good (station .active)) (entry good) [] ∧ (station .active).ctl.configured = true) ∧
    Granted (asked good { State.reset with ctl := { State.reset.ctl with state := .halted } }) (entry good) [] := by
  refine ⟨by decide, by decide, fun bytes => ⟨?_, rfl, rfl⟩, ⟨station_granted _ _, rfl⟩, ?_⟩ <;>
    exact asked_granted _ (by decide) rfl rfl fun i => by simp [State.reset, State.afterReset, Slot.free]

/-- CLAIM over the units 100 to 199 in a mode byte, with the NO_WAIT bit. -/
def claimBytes (mode noWait : Byte) : List Byte := [0x40, noWait, 0, 77, mode, 0, 0, 0, 0, 100, 0, 0, 0, 0, 199]

/-- A full table of shadows, and one of 24 own records: a command is granted. -/
theorem filled_granted (n : Fin 65) (r : Record) (h : r.notice = none) :
    Granted (asked (claimBytes 2 0) (filled n r (station .active))) (entry (claimBytes 2 0)) [] :=
  asked_granted _ (by show (0 : Nat) < 32; omega) rfl rfl fun i => by
    simp only [filled, Table.get, List.getElem_append]
    split <;> simp [h, Slot.free]

theorem witness_ClaimTests :
    (Granted (asked (claimBytes 1 0) (station .forming)) (entry (claimBytes 1 0)) [] ∧
      (station .forming).ctl.state ≠ .active) ∧
    (let bytes : List Byte := [0x40, 0, 0, 77, 1, 0, 0, 0, 0, 100, 0, 0, 0, 0, 99]
     Granted (asked bytes (station .active)) (entry bytes) [] ∧
      fieldAt (entry bytes).bytes 10 5 < fieldAt (entry bytes).bytes 5 5) ∧
    (Granted (asked (claimBytes 3 0) (station .active)) (entry (claimBytes 3 0)) [] ∧
      ¬ fieldAt (entry (claimBytes 3 0)).bytes 10 5 < fieldAt (entry (claimBytes 3 0)).bytes 5 5 ∧
      ¬ (byteAt (entry (claimBytes 3 0)).bytes 4 = 0x01 ∨ byteAt (entry (claimBytes 3 0)).bytes 4 = 0x02)) ∧
    (Granted (asked (claimBytes 2 0) (filled 24 lease (station .active))) (entry (claimBytes 2 0)) [] ∧
      24 ≤ ownCount (asked (claimBytes 2 0) (filled 24 lease (station .active)))) ∧
    (Granted (asked (claimBytes 2 0) (filled 64 live (station .active))) (entry (claimBytes 2 0)) [] ∧
      ownCount (asked (claimBytes 2 0) (filled 64 live (station .active))) < 24 ∧
      ∀ i, (asked (claimBytes 2 0) (filled 64 live (station .active))).record i ≠ none) := by
  refine ⟨⟨station_granted _ _, by decide⟩, ⟨station_granted _ _, by decide⟩, ⟨station_granted _ _, by decide, by decide⟩,
    ⟨filled_granted _ _ rfl, by decide +kernel⟩, ⟨filled_granted _ _ rfl, by decide +kernel, by decide +kernel⟩⟩
/-- The station with a claim waiting, its clock and its fence. -/
def claiming (noWait : Bool) (clock : Word32) (fence : Option Word16) : State :=
  { asked (claimBytes 2 (if noWait then 1 else 0)) (station .active) with
    clock := clock
    shadow := { State.reset.shadow with fence := fence } }

/-- The entry of `claiming`. -/
def claimEntry (noWait : Bool) : CommandEntry := entry (claimBytes 2 (if noWait then 1 else 0))

/-- A claim that passes its tests: the lowest FREE slot is 0. -/
theorem claiming_situation (noWait : Bool) (clock : Word32) (fence : Option Word16) :
    Granted (claiming noWait clock fence) (claimEntry noWait) [] ∧ (claiming noWait clock fence).undamaged ∧
    byteAt (claimEntry noWait).bytes 0 = 0x40 ∧ (claiming noWait clock fence).ctl.configured = true ∧
    (claiming noWait clock fence).ctl.state = .active ∧
    fieldAt (claimEntry noWait).bytes 5 5 ≤ fieldAt (claimEntry noWait).bytes 10 5 ∧
    byteAt (claimEntry noWait).bytes 4 = modeCode .exclusive ∧ ownCount (claiming noWait clock fence) < 24 ∧
    (claiming noWait clock fence).record 0 = none ∧
    (∀ j, j < (0 : SlotNo) → (claiming noWait clock fence).record j ≠ none) ∧
    (fence = none → ∀ stamp range mode, ¬ blocks (claiming noWait clock fence) 0 stamp range mode) := by
  refine ⟨⟨rfl, by show (0 : Nat) < 32; omega, rfl, rfl, (station_granted [] .active).notices⟩, station_sound .active,
    rfl, rfl, rfl, by cases noWait <;> decide, rfl, by show ownCount (station .active) < 24; rw [station_ownCount]; omega,
    station_record .active 0, fun j h => absurd h (Fin.not_lt_zero j), fun _ stamp range mode => ?_⟩
  rintro ⟨j, r, -, hr, -⟩
  exact absurd ((station_record .active j).symm.trans hr) (by simp)

theorem witness_ClaimEntered :
    (claiming false 0xFFFFFEFF none).clock < 0xFFFFFF00 ∧ (claiming false 0xFFFFFEFF none).fenceActive = false ∧
    (claiming true 0xFFFFFEFF (some 500)).fenceActive = true ∧
    (claimed (claiming false 0xFFFFFEFF none) (claimEntry false).bytes .exclusive 0xFFFFFF00).noWait = false ∧
    (claimed (claiming true 0xFFFFFEFF none) (claimEntry true).bytes .exclusive 0xFFFFFF00).noWait = true := by
  decide
theorem witness_ClaimEntered_damaged :
    let s := corrupt 1 lease (claiming false 40 none)
    Granted s (claimEntry false) [] ∧ s.record 0 = none ∧ ownCount s < 24 ∧ s.clock < 0xFFFFFF00 ∧
    s.fenceActive = false ∧ s.record 1 ≠ none ∧ (s.table.get 1).damaged = true ∧ s.ctl.state = .active :=
  ⟨granted_of rfl (by decide) rfl rfl (by decide +kernel), by decide +kernel, by decide +kernel, by decide, rfl,
    by decide +kernel, by decide +kernel, rfl⟩
theorem witness_ClaimExhaustsClock :
    (0xFFFFFF00 : Word32) ≤ (claiming false 0xFFFFFF00 none).clock ∧
    (0xFFFFFF00 : Word32) ≤ (claiming false 0xFFFFFFFF none).clock ∧
    (claiming false 0xFFFFFF00 none).census.epoch ≠ 0xFFFFFFFF ∧
    (claiming false 0xFFFFFF00 none).fenceActive = false ∧
    (claiming true 0xFFFFFF00 (some 500)).fenceActive = true ∧
    (claimed (claiming true 0xFFFFFF00 none) (claimEntry true).bytes .exclusive 0xFFFFFF01).noWait = true ∧
    (let s := { claiming true 0xFFFFFFFF (some 500) with census := { (station .active).census with epoch := 0xFFFFFFFF } }
     s.census.epoch = 0xFFFFFFFF ∧ s.fenceActive = true) := by decide

/-- A named slot: the record in slot 0 of a sound table is the one the command names. -/
theorem named_situation (code : Byte) (st : StationState) (r : Record) (h : r.notice = none) :
    Granted (asked [code, 0] (writeRecord 0 r (station st))) (entry [code, 0]) [] ∧
    byteAt (entry [code, 0]).bytes 0 = code ∧ (byteAt (entry [code, 0]).bytes 1).toNat = (0 : SlotNo).val ∧
    (asked [code, 0] (writeRecord 0 r (station st))).undamaged ∧
    (asked [code, 0] (writeRecord 0 r (station st))).ctl.configured = true ∧
    (asked [code, 0] (writeRecord 0 r (station st))).ctl.state = st ∧
    (asked [code, 0] (writeRecord 0 r (station st))).record 0 = some r :=
  ⟨record_granted _ _ _ h, rfl, rfl, undamaged_writeRecord (station_sound st) 0 r, rfl, rfl, record_writeRecord_self ..⟩

theorem witness_NamedSlotRefused :
    (Granted (asked [0x41, 64] (station .active)) (entry [0x41, 64]) [] ∧
      ∀ i : SlotNo, i.val = (byteAt (entry [0x41, 64]).bytes 1).toNat →
        ((asked [0x41, 64] (station .active)).table.get i).damaged = false ∧ ∀ r,
        (asked [0x41, 64] (station .active)).record i = some r → r.kind = .shadow) ∧
    (∀ st, ∀ i : SlotNo, i.val = (byteAt (entry [0x43, 63]).bytes 1).toNat →
        ((asked [0x43, 63] (station st)).table.get i).damaged = false ∧ ∀ r,
        (asked [0x43, 63] (station st)).record i = some r → r.kind = .shadow) ∧
    ((asked [0x41, 0] (writeRecord 0 lease (station .active))).record 0 = some lease ∧ lease.kind = .own ∧
      lease.state ≠ .pending ∧ lease.state ≠ .waiting) ∧ claim.state ≠ .granted ∧
    (∀ code st, Granted (asked [code, 0] (corrupt 0 lease (station st))) (entry [code, 0]) [] ∧
      ((asked [code, 0] (corrupt 0 lease (station st))).table.get 0).damaged = true) := by
  refine ⟨⟨station_granted _ _, fun i hi => ?_⟩, fun st i hi => ⟨station_sound st i, fun r hr => ?_⟩,
    ⟨(named_situation 0x41 .active lease rfl).2.2.2.2.2.2, rfl, by decide, by decide⟩, by decide,
    fun code st => ⟨granted_of rfl (by show (0 : Nat) < 32; omega) rfl rfl fun i => ?_, (corrupt_situation 0 lease _).1⟩⟩
  · have : i.val = 64 := hi
    omega
  · exact absurd ((station_record st i).symm.trans hr) (by simp)
  · simp only [asked, corrupt, Table.get_set]
    split
    · rfl
    · simp [station, State.reset, State.afterReset, Slot.free]
theorem witness_CancelAndRelease :
    (asked [0x41, 0] (writeRecord 0 claim (station .forming))).record 0 = some claim ∧ claim.kind = .own ∧
    claim.state = .pending ∧ (enterWaiting .remote claim).state = .waiting ∧
    (asked [0x42, 0] (writeRecord 0 lease (station .forming))).record 0 = some lease ∧ lease.kind = .own ∧
    lease.state = .granted :=
  ⟨(named_situation 0x41 .forming claim rfl).2.2.2.2.2.2, rfl, rfl, rfl,
    (named_situation 0x42 .forming lease rfl).2.2.2.2.2.2, rfl, rfl⟩
theorem witness_RenewRestartsTerm :
    Granted (asked [0x43, 0] (writeRecord 0 lease (station .active))) (entry [0x43, 0]) [] ∧
    (asked [0x43, 0] (writeRecord 0 lease (station .active))).record 0 = some lease ∧ lease.state = .granted ∧
    ((asked [0x43, 0] (writeRecord 0 lease (station .active))).table.get 0).damaged = false :=
  ⟨(named_situation 0x43 .active lease rfl).1, (named_situation 0x43 .active lease rfl).2.2.2.2.2.2, rfl,
    (named_situation 0x43 .active lease rfl).2.2.2.1 0⟩

/-- A command that names no slot. -/
theorem plain_situation (code : Byte) (st : StationState) :
    Granted (asked [code] (station st)) (entry [code]) [] ∧ byteAt (entry [code]).bytes 0 = code ∧
    (asked [code] (station st)).undamaged ∧ (asked [code] (station st)).ctl.configured = true ∧
    (asked [code] (station st)).ctl.state = st :=
  ⟨station_granted _ _, rfl, station_sound st, rfl, rfl⟩

theorem witness_ResyncForms :
    (Granted (asked [0x50] (station .forming)) (entry [0x50]) [] ∧ (station .forming).ctl.state ≠ .active) ∧
    (Granted (asked [0x50] (station .active)) (entry [0x50]) [] ∧ (station .active).census.epoch ≠ 0xFFFFFFFF ∧
      (station .active).scan = none ∧ State.scan { station .active with scan := some { nextSlot := 0, objection := false } } ≠ none) ∧
    (let s := { asked [0x50] (station .active) with census := { (station .active).census with epoch := 0xFFFFFFFF } }
     Granted s (entry [0x50]) [] ∧ s.census.epoch = 0xFFFFFFFF) :=
  ⟨⟨station_granted _ _, by decide⟩, ⟨station_granted _ _, by decide, rfl, by simp⟩,
    ⟨⟨rfl, by decide, rfl, rfl, (station_granted [] .active).notices⟩, rfl⟩⟩
theorem witness_LeaveRetires :
    (Granted (asked [0x51] (station .isolated)) (entry [0x51]) [] ∧ (station .isolated).ctl.state ≠ .active) ∧
    (Granted (asked [0x51] (writeRecord 0 lease (station .active))) (entry [0x51]) [] ∧
      drainHolds (asked [0x51] (writeRecord 0 lease (station .active))) = false) ∧
    (Granted (asked [0x51] (station .active)) (entry [0x51]) [] ∧
      drainHolds (asked [0x51] (station .active)) = true) :=
  ⟨⟨station_granted _ _, by decide⟩, ⟨record_granted _ _ _ rfl, by decide +kernel⟩, ⟨station_granted _ _, by decide +kernel⟩⟩

/-- One record in slot 0: the table is sound, and slot 0 is the lowest of any record looked for. -/
theorem holding_situation (r : Record) (st : StationState) :
    (holding r st).undamaged ∧ (holding r st).record 0 = some r ∧ (holding r st).ctl.state = st ∧
    (∀ j q, (holding r st).record j = some q → q = r) ∧
    ∀ (P : SlotNo → Record → Prop) j q, j < (0 : SlotNo) → (holding r st).record j = some q → P j q := by
  refine ⟨undamaged_writeRecord (station_sound st) 0 r, record_writeRecord_self .., rfl, fun j q h => ?_,
    fun _ j _ h => absurd h (Fin.not_lt_zero j)⟩
  by_cases hj : (0 : SlotNo) = j
  · subst hj
    rw [holding, record_writeRecord_self] at h
    exact (Option.some.inj h).symm
  · rw [holding, record_writeRecord_ne _ _ _ _ hj, station_record] at h
    cases h

theorem witness_NoticesDrained :
    (let r := setNotice .granted lease
     (holding r .active).host.results.length < 32 ∧ (holding r .active).ctl.stateMark = none ∧
      (holding r .active).ctl.faultMark = none ∧ (holding r .active).record 0 = some r ∧
      r.notice = some { notice := .granted, replaced := false } ∧
      (r.state ≠ .retired ∨ r.due ≠ none) ∧ ((holding r .active).table.get 0).damaged = false) ∧
    (let r := retireOwn .halted .expired .expired (some .expired) lease
     r.state = .retired ∧ r.due = none ∧ r.notice.isSome) ∧
    (((corrupt 0 (setNotice .granted lease) (station .halted)).table.get 0).damaged = true ∧
      ((corrupt 0 (setNotice .granted lease) (station .active)).table.get 0).damaged = true ∧
      (corrupt 0 (setNotice .granted lease) (station .active)).ctl.state ≠ .halted ∧
      (corrupt 0 (setNotice .granted lease) (station .active)).record 0 = some (setNotice .granted lease)) ∧
    (markStateNow .forming none (station .forming)).ctl.stateMark ≠ none ∧
    ((markFault .ringOverfull (station .forming)).ctl.stateMark = none ∧
      (markFault .ringOverfull (station .forming)).ctl.faultMark ≠ none) ∧
    32 ≤ (List.replicate 32 (ResultRecord.started .pin)).length := by decide +kernel
theorem witness_TickCountsTimers :
    (holding { lease with mainTimer := some 101 } .active).undamaged ∧
    (holding { lease with mainTimer := some 101 } .active).record 0 = some { lease with mainTimer := some 101 } ∧
    inRing (holding lease .active).ctl.state = true ∧ (holding lease .active).ctl.config.warning ≠ 0 ∧
    (101 : Word16).toNat = (holding lease .active).ctl.config.warning.toNat + 1 ∧ live.kind = .shadow ∧
    lease.kind = .own ∧ inRing .halted = false :=
  ⟨(holding_situation _ _).1, (holding_situation _ _).2.1, rfl, by decide, rfl, rfl, rfl, rfl⟩
/-- Damaged slots with the timers, dues and ballots that statements speak of. -/
theorem witness_check_errors :
    (∀ r st, ((corrupt 0 r (station st)).table.get 0).damaged = true ∧ (corrupt 0 r (station st)).record 0 = some r ∧
      (corrupt 0 r (station st)).ctl.state = st ∧
      ∀ j, j ≠ 0 → ((corrupt 0 r (station st)).table.get j).damaged = false ∧ (corrupt 0 r (station st)).record j = none) ∧
    (let s := corrupt 1 claim (holding { lease with mainTimer := some 0 } .active)
     s.record 0 = some { lease with mainTimer := some 0 } ∧ (s.table.get 0).damaged = false ∧
      s.record 1 = some claim ∧ (s.table.get 1).damaged = true ∧ claim.state = .pending) ∧
    (let s := corrupt 1 live (holding claim .active)
     s.record 0 = some claim ∧ claim.due = some .ballot ∧ (s.table.get 0).damaged = false ∧ s.fenceActive = false ∧
      s.record 1 ≠ none ∧ (s.table.get 1).damaged = true) ∧
    lease.mainTimer.isSome ∧ live.mainTimer.isSome ∧ inRing .active = true ∧ claim.due ≠ none := by
  refine ⟨fun r st => ⟨(corrupt_situation 0 r _).1, (corrupt_situation 0 r _).2.1, rfl, fun j hj => ?_⟩, by decide +kernel,
    by decide +kernel, rfl, rfl, rfl, by decide⟩
  have h := (corrupt_situation 0 r (station st)).2.2 j hj
  exact ⟨by rw [h]; exact station_sound st j, by rw [State.record, h]; exact station_record st j⟩
theorem witness_OwnTimersExpire :
    let lost (n : Nat) : Record := { sent with mainTimer := some 0, lossCount := n }
    (∀ r st, (holding r st).undamaged ∧ (holding r st).record 0 = some r) ∧ (lost 2).kind = .own ∧
    (lost 2).state = .pending ∧ (lost 2).mainTimer = some 0 ∧ (lost 2).lossCount < 3 ∧ 3 ≤ (lost 3).lossCount ∧
    ({ claim with waitLimit := some 0 } : Record).waitLimit = some 0 ∧
    ({ lease with mainTimer := some 0 } : Record).state = .granted ∧
    (∀ i r, (station .active).record i = some r → r.mainTimer ≠ some 0) ∧
    (∀ i r, (station .active).record i = some r → r.waitLimit ≠ some 0) :=
  ⟨fun r st => ⟨(holding_situation r st).1, (holding_situation r st).2.1⟩, rfl, rfl, rfl, by decide, by decide, rfl, rfl,
    fun i r h => by simp at h, fun i r h => by simp at h⟩
theorem witness_ShadowAndFenceExpire :
    let ended : Record := { live with mainTimer := some 0 }
    ((holding ended .active).undamaged ∧ (holding ended .active).record 0 = some ended ∧ ended.kind = .shadow ∧
      ended.state = .live ∧ ended.mainTimer = some 0 ∧ ended.objected = false ∧ ended.notice = none) ∧
    (({ ended with objected := true } : Record).objected = true ∧ dueAllowed .active = true ∧ dueAllowed .forming = false) ∧
    (let s := { station .active with shadow := { State.reset.shadow with fence := some 0 } }
     s.undamaged ∧ s.shadow.fence = some 0) ∧ (station .active).shadow.fence ≠ some 0 :=
  ⟨⟨(holding_situation _ _).1, (holding_situation _ _).2.1, rfl, rfl, rfl, rfl, rfl⟩, ⟨rfl, rfl, rfl⟩,
    ⟨station_sound .active, rfl⟩, by decide⟩
theorem witness_CensusTimersExpire :
    forming.census.retryTimer = some 0 ∧ forming.ctl.state = .forming ∧
    forming.census.bestKey = some { epoch := 6, origin := 7 } ∧
    (6 : Word32).toNat = max (6 : Word32).toNat forming.census.epoch.toNat ∧
    (0xFFFFFFFF : Word32).toNat = max (0xFFFFFFFF : Word32).toNat forming.census.epoch.toNat ∧
    forming.undamaged ∧ forming.census.formationTimer = some 0 ∧ forming.fh.inSend = none ∧
    forming.fh.origination = [] ∧
    (let s := { forming with fh := { State.reset.fh with
       origination := [{ frame 7 (.census [7]) with epoch := 6 }] } }
     ∃ f ∈ s.fh.origination, isCensus f = true ∧ some (censusKey f) = s.census.bestKey) :=
  ⟨rfl, rfl, rfl, by decide, by decide, station_sound .forming, rfl, rfl, rfl, _, List.mem_singleton_self _, by decide, by decide⟩
theorem witness_CensusTimersExpire_damaged :
    let s := corrupt 0 live { forming with table := (writeRecord 1 lease (station .forming)).table }
    s.census.formationTimer = some 0 ∧ s.ctl.state = .forming ∧ (s.table.get 0).damaged = true ∧
    s.record 0 = some live ∧ live.kind = .shadow ∧ live.state ≠ .retired ∧ live.due = none ∧ (∀ i, i ≠ 0 → (s.table.get i).damaged = false) ∧
    s.record 1 = some lease ∧ lease.kind = .own ∧ lease.state = .granted := by decide +kernel
theorem witness_LeavingEnds :
    (leaving.undamaged ∧ leaving.ctl.state = .leaving ∧ leaving.ctl.leaveTimer = some 0 ∧
      (∀ i r, leaving.record i = some r → r.kind = .shadow ∧ r.due = none) ∧ leaving.census.censusDue = false ∧
      leaving.census.rosterDue = none ∧ leaving.shadow.fenceEndDue = false ∧ leaving.fh.origination = [] ∧
      leaving.fh.outstanding = 0) ∧ (station .active).ctl.state ≠ .leaving ∧
    (station .leaving).ctl.leaveTimer ≠ some 0 ∧ (holding lease .leaving).record 0 = some lease ∧
    State.fh { leaving with fh := { State.reset.fh with outstanding := 1 } } ≠ leaving.fh :=
  ⟨⟨station_sound .leaving, rfl, rfl, fun i r h => absurd ((station_record .leaving i).symm.trans h) (by simp), rfl, rfl,
    rfl, rfl, rfl⟩, by decide, by decide, (holding_situation _ _).2.1, by decide⟩
theorem witness_FrameArrivals :
    let s (n : Nat) : State := { station .active with
      up := { (station .active).up with badRun := n }
      fh := { State.reset.fh with transit := List.replicate 7 { frame := frame 7 (.ballot ballot), cond := .awaiting } } }
    (s 2).up.link = .up ∧ (s 2).fh.transit.length < 8 ∧ (s 2).up.badRun < 3 ∧ 3 ≤ (s 3).up.badRun ∧
    checkFrame [0, 0, 0] = none ∧
    checkFrame (frameBytes (frame 7 (.ballot ballot))) = some (frame 7 (.ballot ballot)) ∧
    inRing (s 3).ctl.state = true ∧ (s 3).ctl.state ≠ .leaving ∧ (s 3).census.epoch ≠ 0xFFFFFFFF ∧
    (linked .creditWait .active).up.link = .creditWait ∧ State.reset.up.link = .off := by decide +kernel
theorem witness_LocksFollowTheLane :
    givesAlignment (List.replicate 8 (dataGroup 0)) = true ∧ (linked .training .forming).up.link = .training ∧
    (linked .training .forming).down.link = .training ∧ (linked .creditWait .forming).down.link = .creditWait ∧
    receive .upstream true (dataGroup 0) = .normal ∧ receive .downstream false (controlGroup .token) = .normal ∧
    (linked .training .forming).up.receiveLock = true ∧ (linked .training .forming).down.receiveLock = true ∧
    unlocks .upstream (.violation false (dataGroup 0)) = true ∧ unlocks .downstream .laneQuiet = true ∧
    State.reset.up.link = .off ∧ State.reset.down.link = .off := by decide
theorem witness_PortsLeaveUp :
    (station .active).undamaged ∧ inRing (station .active).ctl.state = true ∧ (station .active).up.link = .up ∧
    (station .active).down.link = .up ∧ (station .active).up.receiveLock = true ∧
    (station .active).down.receiveLock = true ∧ unlocks .upstream .alignmentLost = true ∧
    unlocks .downstream (.violation false (controlGroup .rebase)) = true :=
  ⟨station_sound _, rfl, rfl, rfl, rfl, rfl, rfl, rfl⟩
theorem witness_CreditSymbols :
    let owing (l : LinkState) : State := { linked l .forming with
      up := { (linked l .forming).up with advertisementOwed := true } }
    (linked .up .active).down.credit < 8 ∧ 8 ≤ (station .active).down.credit ∧
    (owing .creditWait).up.link = .creditWait ∧ (owing .creditWait).up.farLock = true ∧
    (owing .creditWait).fh.transit = [] ∧ (owing .up).up.link = .up ∧ (owing .up).up.advertisementOwed = true ∧
    (station .active).up.advertisementOwed = false ∧ (linked .training .active).down.link = .training := by decide

/-- A foreign or own frame taken at a station with one record. -/
theorem taking_situation (f : Frame) (r : Record) (st : StationState) (h : inRing st = true) :
    Takes (arriving f (holding r st)) [] f [] ∧ (arriving f (holding r st)).undamaged ∧
    (arriving f (holding r st)).record 0 = some r ∧ (arriving f (holding r st)).ctl.state = st :=
  ⟨arriving_takes f h, (holding_situation r st).1, (holding_situation r st).2.1, rfl⟩

theorem witness_FramesDiscardedOrStripped :
    (∀ f, Takes (arriving f (station .active)) [] f [] ∧ Takes (arriving f (station .forming)) [] f []) ∧
    ({ frame 7 (.ballot ballot) with hop := 15 } : Frame).origin ≠ (station .active).stationId ∧
    15 ≤ ({ frame 7 (.ballot ballot) with hop := 15 } : Frame).hop.toNat ∧
    (isCounted (frame 7 (.ballot ballot)) = true ∧ ({ frame 7 (.ballot ballot) with epoch := 4 } : Frame).epoch ≠ 5) ∧
    (isCensus (frame 7 (.census [7])) = true ∧ (frame 7 (.census [7])).epoch.toNat ≤ (station .active).census.epoch.toNat) ∧
    ((frame 3 (.roster [3, 7])).origin = (station .active).stationId ∧ isBallot (frame 3 (.roster [3, 7])) = false) ∧
    dueAllowed .active = true ∧ dueAllowed .forming = false ∧
    (∀ x ∈ (station .active).fh.transit, x.cond ≠ .awaiting) ∧
    (let s := { station .active with
       scan := some { nextSlot := 0, objection := false }
       fh := { State.reset.fh with transit := [{ frame := frame 7 (.ballot ballot), cond := .inHand }] } }
     s.scan.isSome ∧ handFrame s ≠ none) :=
  ⟨fun f => ⟨arriving_takes f rfl, arriving_takes f rfl⟩, by decide, by decide, by decide, by decide, by decide,
    rfl, rfl, by simp [station, State.reset, State.afterReset], by decide⟩

/-- An own ballot on its way back finds the one record that sent it. -/
theorem returns_situation (r : Record) (f : Frame) (hk : r.kind = .own) (hs : r.state = .pending)
    (hc : r.identity.count = 9) (hi : r.issue = 0) (hm : r.mainTimer.isSome) (b : Ballot) (hb : b.count = 9)
    (hn : b.issue = 0) : Returns (arriving f (holding r .active)) b 0 r :=
  ⟨(holding_situation r .active).2.1, hk, hs, hc.trans hb.symm, hi.trans hn.symm, hm,
    fun j _ h => absurd h (Fin.not_lt_zero j)⟩

theorem witness_GenuineReturnDecides :
    let b (n : StationSet) : Ballot := { ballot with objectors := n }
    (∀ n r, Takes (arriving (frame 3 (.ballot (b n))) (holding r .active)) [] (frame 3 (.ballot (b n))) [] ∧
      (arriving (frame 3 (.ballot (b n))) (holding r .active)).undamaged) ∧
    (∀ n, Returns (arriving (frame 3 (.ballot (b n))) (holding sent .active)) (b n) 0 sent) ∧
    (∀ n : StationId, ballot.visited.getLsbD n.toNat = true ↔
      n ∈ (station .active).census.roster ∧ n ≠ (station .active).stationId) ∧
    (b 0).objectors = 0 ∧ (b 0x80).objectors ≠ 0 ∧ ({ sent with releaseSeen := true } : Record).releaseSeen = true ∧
    sent.releaseSeen = false ∧ sent.noWait = false ∧ ({ sent with noWait := true } : Record).noWait = true ∧
    (frame 3 (.ballot ballot)).epoch = (station .active).census.epoch :=
  ⟨fun n r => ⟨(taking_situation _ r .active rfl).1, (taking_situation _ r .active rfl).2.1⟩,
    fun n => returns_situation sent _ rfl rfl rfl rfl rfl _ rfl rfl, by decide +kernel, rfl, by decide, rfl, rfl, rfl, rfl, rfl⟩
theorem witness_LostAndStaleReturns :
    let late (n : Nat) : Record := { sent with lossCount := n }
    let b : Ballot := { ballot with visited := 0x02 }
    (∀ n, Returns (arriving (frame 3 (.ballot b)) (holding (late n) .active)) b 0 (late n)) ∧
    b.visited ≠ expectedVisitors (station .active) ∧ (late 2).lossCount < 3 ∧ 3 ≤ (late 3).lossCount ∧
    (Takes (arriving (frame 3 (.ballot b)) (station .active)) [] (frame 3 (.ballot b)) [] ∧
      (arriving (frame 3 (.ballot b)) (station .active)).undamaged ∧
      ∀ i r, ¬ Returns (arriving (frame 3 (.ballot b)) (station .active)) b i r) ∧
    ({ frame 3 (.ballot b) with epoch := 4 } : Frame).epoch ≠ (station .active).census.epoch :=
  ⟨fun n => returns_situation _ _ rfl rfl rfl rfl rfl _ rfl rfl, by decide +kernel, by decide, by decide,
    ⟨arriving_takes _ rfl, station_sound .active, fun i r h =>
      absurd ((station_record .active i).symm.trans h.1) (by simp)⟩, by decide⟩

/-- An ANNOUNCE and a RELEASE that name the lease of `live`. -/
def announce : Announce :=
  { leaseEpoch := 4, count := 2, cause := 2, mode := 2, range := { first := 100, last := 199 }, term := 50 }
def released (reason : Byte) : Release :=
  { holder := 7, reason := reason, leaseEpoch := 4, count := 2, mode := 2, range := { first := 100, last := 199 } }

/-- R184: a mode byte other than 01h is EXCLUSIVE in the shadow; a reason byte of no code is RELEASED on the due. -/
theorem test_announce_mode :
    (((after .frameTaking (arriving (frame 7 (.announce { announce with mode := 0x77 })) (station .active))).record 0).map
      Record.mode) = some .exclusive := by decide +kernel
theorem test_release_reason :
    (((after .frameTaking (arriving (frame 7 (.release (released 0x77)))
      (writeRecord 0 { live with objected := true } (station .active)))).record 0).map Record.due) =
      some (some (.release .released)) := by decide +kernel
theorem witness_ForeignAnnounce :
    let f := frame 7 (.announce announce)
    (∀ r, Takes (arriving f (holding r .active)) [] f [] ∧ (arriving f (holding r .active)).undamaged) ∧
    f.origin ≠ (station .active).stationId ∧ f.hop.toNat < 15 ∧ f.epoch = (station .active).census.epoch ∧
    (arriving f (holding live .active)).record 0 = some live ∧ live.kind = .shadow ∧
    live.identity = { epoch := announce.leaseEpoch, count := announce.count, id := f.origin } ∧
    live.state ≠ .retired ∧ (retireShadow .active .lapsed .orphanLapsed live).state = .retired ∧
    (∀ i, (arriving f (station .active)).record i = none) ∧
    ∀ i, (filled 64 lease (station .active)).record i ≠ none := by
  refine ⟨fun r => ⟨(taking_situation _ r .active rfl).1, (taking_situation _ r .active rfl).2.1⟩, by decide, by decide, rfl,
    (taking_situation _ live .active rfl).2.2.1, rfl, rfl, by decide, rfl, fun i => station_record .active i, by decide +kernel⟩
theorem witness_ForeignRelease :
    let f (reason : Byte) := frame 7 (.release (released reason))
    (∀ reason r, Takes (arriving (f reason) (holding r .active)) [] (f reason) [] ∧
      (arriving (f reason) (holding r .active)).undamaged) ∧
    (f 5).origin ≠ (station .active).stationId ∧ (f 5).hop.toNat < 15 ∧ (f 5).epoch = (station .active).census.epoch ∧
    (released 5).reason = 0x05 ∧ (released 6).reason ≠ 0x05 ∧
    live.identity = { epoch := 4, count := 2, id := 7 } ∧ live.kind = .shadow ∧ live.state ≠ .retired ∧
    live.objected = false ∧ live.notice = none ∧ ({ live with objected := true } : Record).objected = true ∧
    ∀ j q, (arriving (f 1) (station .active)).record j = some q →
      ¬ (q.kind = .shadow ∧ q.identity = { epoch := 4, count := 2, id := 7 } ∧ q.state ≠ .retired) :=
  ⟨fun _ r => ⟨(taking_situation _ r .active rfl).1, (taking_situation _ r .active rfl).2.1⟩, by decide, by decide, rfl, rfl,
    by decide, rfl, rfl, by decide, rfl, rfl, rfl,
    fun j q h => absurd ((station_record .active j).symm.trans h) (by simp)⟩
theorem witness_BallotScanned :
    let f := frame 7 (.ballot ballot)
    let scanning (i : Nat) (r : Record) : State := { holding r .active with
      scan := some { nextSlot := i, objection := false }
      fh := { State.reset.fh with transit := [{ frame := f, cond := .inHand }] } }
    (Takes (arriving f (station .active)) [] f [] ∧ f.origin ≠ (station .active).stationId ∧ f.hop.toNat < 15 ∧
      f.epoch = (station .active).census.epoch ∧ (station .active).fenceActive = false ∧
      State.fenceActive { station .active with shadow := { State.reset.shadow with fence := some 9 } } = true) ∧
    ((scanning 0 lease).fh.transit = [] ++ { frame := f, cond := .inHand } :: [] ∧
      (scanning 0 lease).scan = some { nextSlot := (0 : SlotNo).val, objection := false } ∧
      ((scanning 0 lease).table.get 0).damaged = false ∧ (scanning 0 lease).record 0 = some lease ∧
      conflicts lease.range lease.mode ballot.range (if ballot.mode = 0x01 then .shared else .exclusive) = true ∧ lease.state = .granted) ∧
    (((corrupt 0 lease (scanning 0 lease)).table.get 0).damaged = true ∧
      (corrupt 0 lease (scanning 0 lease)).ctl.state ≠ .halted) ∧
    ((scanning 63 lease).scan = some { nextSlot := (63 : SlotNo).val, objection := false } ∧
      (scanning 63 lease).record 63 = none) := by
  refine ⟨⟨arriving_takes _ rfl, by decide, by decide, rfl, rfl, rfl⟩, ⟨rfl, rfl, ?_, ?_, by decide, rfl⟩,
    ⟨(corrupt_situation 0 lease _).1, by decide⟩, ⟨rfl, ?_⟩⟩
  · exact (holding_situation lease .active).1 0
  · exact (holding_situation lease .active).2.1
  · exact (record_writeRecord_ne _ _ _ _ (by decide)).trans (station_record _ _)
theorem witness_ForeignCensusJudged :
    let f (epoch : Word32) (members : List StationId) : Frame := { frame 7 (.census members) with epoch := epoch }
    (∀ g st, inRing st = true → Takes (arriving g (station st)) [] g [] ∧ (arriving g (station st)).undamaged) ∧
    (f 6 [7]).origin ≠ (station .forming).stationId ∧ (f 6 [7]).hop.toNat < 15 ∧
    (station .forming).census.bestKey = some { epoch := 5, origin := 1 } ∧ formingOrIsolated .forming = true ∧
    (station .forming).stationId ∈ ([7, 3] : List StationId) ∧ (station .forming).stationId ∉ ([7] : List StationId) ∧
    keyAbove { epoch := 6, origin := 7 } { epoch := 5, origin := 1 } = true ∧
    keyAbove { epoch := 5, origin := 0 } { epoch := 5, origin := 1 } = false ∧
    keyAbove { epoch := 5, origin := 1 } { epoch := 5, origin := 0 } = true ∧
    (station .active).scan = none ∧ (station .active).census.epoch.toNat < (f 6 [7]).epoch.toNat :=
  ⟨fun g st h => ⟨arriving_takes g h, station_sound st⟩, by decide, by decide, rfl, rfl, by decide, by decide, by decide,
    by decide, by decide, rfl, by decide⟩
theorem witness_OwnCensusReturns :
    let f (epoch : Word32) : Frame := { frame 3 (.census [3, 7]) with epoch := epoch }
    (∀ e, Takes (arriving (f e) (station .forming)) [] (f e) [] ∧ (f e).origin = (station .forming).stationId) ∧
    formingOrIsolated (station .forming).ctl.state = true ∧
    keyAbove { epoch := 6, origin := 3 } { epoch := 5, origin := 1 } = true ∧
    keyAbove { epoch := 5, origin := 1 } { epoch := 4, origin := 3 } = true ∧
    ({ f 6 with duplicate := true } : Frame).duplicate = true ∧ ({ f 6 with overfull := true } : Frame).duplicate = false ∧
    ([3, 7] : List StationId).Nodup ∧ ¬ ([3, 3] : List StationId).Nodup ∧ ([3] : List StationId).length < 2 :=
  ⟨fun e => ⟨arriving_takes _ rfl, rfl⟩, rfl, by decide, by decide, rfl, rfl, by decide, by decide, by decide⟩
theorem witness_RosterAdopted :
    let f := { frame 7 (.roster [7, 3]) with epoch := 6 }
    let s := arriving f forming
    (Takes s [] f [] ∧ f.origin ≠ s.stationId ∧ f.hop.toNat < 15 ∧ s.undamaged ∧
      s.census.bestKey = some { epoch := f.epoch, origin := f.origin } ∧ s.stationId ∈ ([7, 3] : List StationId) ∧
      ([7, 3] : List StationId).Nodup) ∧ s.stationId ∉ ([7, 1] : List StationId) ∧
    (let d : State := { forming with census := { forming.census with
       rosterDue := some { epoch := 6, members := [3, 7] } } }
     d.fh.origination.length < 16 ∧ d.census.censusDue = false ∧ d.undamaged) :=
  ⟨⟨arriving_takes _ rfl, by decide, by decide, station_sound .forming, rfl, by decide, by decide⟩, by decide,
    by decide, rfl, station_sound .forming⟩
theorem witness_DuesServed :
    (let s := { forming with census := { forming.census with censusDue := true } }
     s.fh.origination.length < 16 ∧ formingOrIsolated s.ctl.state = true ∧ s.up.link = .up ∧ s.down.link = .up ∧
      s.census.bestKey = some { epoch := 6, origin := 7 }) ∧
    (let s := { station .active with shadow := { State.reset.shadow with fenceEndDue := true } }
     s.fh.origination.length < 16 ∧ dueAllowed s.ctl.state = true) ∧
    (∀ r, (holding r .active).undamaged ∧ (holding r .active).record 0 = some r ∧
      (holding r .active).shadow.fenceEndDue = false ∧ (holding r .active).fenceActive = false ∧
      ∀ range mode stamp, ¬ blocks (holding r .active) 0 stamp range mode) ∧
    claim.due = some .ballot ∧ ({ lease with due := some (.announce .grant) } : Record).due = some (.announce .grant) ∧
    (retireOwn .active .expired .expired none lease).due = some (.release .expired) ∧
    (retireOwn .active .expired .expired none lease).notice = none ∧
    (retireOwn .active .expired .expired (some .expired) lease).notice ≠ none ∧
    16 ≤ (List.replicate 16 (frame 3 (.ballot ballot))).length :=
  ⟨⟨by decide, rfl, rfl, rfl, rfl⟩, ⟨by decide, rfl⟩, fun r => ⟨(holding_situation r .active).1,
    (holding_situation r .active).2.1, rfl, rfl, fun range mode stamp => by
      rintro ⟨j, q, hj, hq, -⟩
      rw [holding, record_writeRecord_ne _ _ _ _ (Ne.symm hj), station_record] at hq
      cases hq⟩, rfl, rfl, rfl, rfl, by decide, by decide⟩
theorem witness_ArbiterChooses :
    let f := frame 7 (.ballot ballot)
    let s (transit : List TransitEntry) (own : List Frame) (credit position : Nat) : State := { station .active with
      down := { (station .active).down with credit := credit }
      fh := { State.reset.fh with transit := transit, origination := own, arbiterPos := position } }
    ((s [{ frame := f, cond := .ready }] [] 1 0).fh.transit.head? = some { frame := f, cond := .ready } ∧
      1 ≤ (s [] [] 1 0).down.credit ∧ ¬ 2 ≤ (s [] [f] 1 0).down.credit) ∧
    ((s [] [f] 2 3).fh.origination.head? = some f ∧ 2 ≤ (s [] [f] 2 3).down.credit ∧
      (s [] [f] 2 3).fh.transit.head? = none) ∧
    (s [] [] 2 3).fh.arbiterPos ≤ 3 ∧ (s [] [] 2 4).fh.arbiterPos = 4 ∧ (s [] [] 2 4).down.link = .up ∧
    (s [] [] 2 4).fh.inSend = none := by decide
theorem witness_FrameDeparts :
    let x (f : Frame) (src : SendSource) : InSend :=
      { frame := f, source := src, bytes := [], left := false, rebases := 0 }
    let waits : Record := { sent with mainTimer := none }
    (∀ f src, State.fh { holding waits .active with fh := { State.reset.fh with inSend := some (x f src) } } =
      { State.reset.fh with inSend := some (x f src) }) ∧
    isCounted (frame 3 (.release (released 1))) = true ∧ isBallot (frame 3 (.release (released 1))) = false ∧
    ((holding waits .active).record 0 = some waits ∧ waits.kind = .own ∧ waits.state = .pending ∧
      waits.identity.epoch = (frame 3 (.ballot ballot)).epoch ∧ waits.identity.count = ballot.count ∧
      waits.issue = ballot.issue ∧ waits.mainTimer = none ∧ (holding waits .active).undamaged) ∧
    (∀ j q, (station .active).record j ≠ some q) ∧
    (isCounted (frame 3 (.census [3])) = false ∧ isCensus (frame 3 (.census [3])) = true ∧
      isCensus (frame 3 (.roster [3, 7])) = false ∧ forming.census.censusDue = false) :=
  ⟨fun _ _ => rfl, rfl, rfl, ⟨(holding_situation _ _).2.1, rfl, rfl, rfl, rfl, rfl, rfl, (holding_situation _ _).1⟩,
    fun j q => by simp, rfl, rfl, rfl, rfl⟩

/-- A station with one own lease meets every invariant, and a step leads on from it. -/
theorem witness_invariants :
    let s := { holding lease .active with pending := [.tick] }
    LinksFit s ∧ QueuesFit s ∧ RecordsFit s ∧ UnitsFit s ∧ EpochFit s ∧ BallotsFit s ∧ GrantsApart s ∧ InBounds s ∧
    s.undamaged ∧ ∃ t, Sys2Proof.Machine.step s = .next t := by
  have one : ∀ j q, State.record { holding lease .active with pending := [.tick] } j = some q → q = lease :=
    (holding_situation lease .active).2.2.2.1
  have slot : ∀ j q, State.record { holding lease .active with pending := [.tick] } j = some q → j = 0 := by
    intro j q h
    by_contra hj
    have h : (holding lease .active).record j = some q := h
    rw [holding, record_writeRecord_ne _ _ _ _ (Ne.symm hj), station_record] at h
    cases h
  refine ⟨?_, ?_, ?_, ?_, ?_, ?_, ?_, ?_, (holding_situation lease .active).1, _, rfl⟩
  · constructor <;> simp [holding, station, writeRecord, State.reset, State.afterReset, outOfRing, inRing, readsSymbols]
  · constructor <;> simp [holding, station, writeRecord, State.reset, State.afterReset, outOfRing, inRing, ordered, handFrame]
  · intro i r h
    rw [one i r h]
    refine ⟨.inl rfl, ?_, ?_⟩
    · constructor <;> decide
    · intro d hd
      cases hd
  · constructor <;> decide
  · refine ⟨fun h => absurd h (by decide), by decide, fun _ => ⟨_, rfl, rfl⟩, fun d hd => ?_, by decide⟩
    cases hd
  · refine ⟨by decide, List.Pairwise.nil, fun _ f hf => ?_, fun x hx => ?_, fun i r h => ?_⟩
    · cases hf
    · cases hx
    · rw [one i r h]; decide
  · refine ⟨fun i j r q hij h h' => ?_, fun i j r q hij h h' => ?_, fun _ i r h hc => ?_, fun _ i j r q hij h h' => ?_⟩
    · exact absurd ((slot i r h).trans (slot j q h').symm) hij
    · exact absurd ((slot i r h).trans (slot j q h').symm) hij
    · rw [one i r h] at hc
      rcases hc with ⟨-, hc | hc⟩ <;> cases hc
    · exact absurd ((slot i r h).trans (slot j q h').symm) hij
  · constructor <;> first | decide +kernel | (intro x hx; cases hx)

end Sys2Proof.Tests
end

section
/-! PROOF. Overlap and conflict of ranges (R2, R4), and the places that test them: the local scan, the scan of a
ballot and the wake rule. -/

namespace Sys2Proof.Machine

/-! ### Overlap -/

theorem overlaps_iff (a b : Range) :
    overlaps a b = true ↔ a.first.toNat ≤ b.last.toNat ∧ b.first.toNat ≤ a.last.toNat := by
  simp [overlaps, BitVec.le_def]

theorem overlaps_comm (a b : Range) : overlaps a b = overlaps b a :=
  Bool.and_comm _ _

theorem overlaps_self {a : Range} (h : a.first.toNat ≤ a.last.toNat) : overlaps a a = true :=
  (overlaps_iff a a).mpr ⟨h, h⟩

@[simp] theorem overlaps_wholeSpace (a : Range) : overlaps wholeSpace a = true := by
  have first : wholeSpace.first.toNat ≤ a.last.toNat := Nat.zero_le _
  have last : a.first.toNat ≤ wholeSpace.last.toNat := Nat.le_pred_of_lt a.first.isLt
  exact (overlaps_iff wholeSpace a).mpr ⟨first, last⟩

/-- Settles O1. -/
theorem overlapTest : Obligations.OverlapTest := by
  have units : overlaps ⟨100, 199⟩ ⟨100, 199⟩ = true ∧ overlaps ⟨100, 199⟩ ⟨150, 150⟩ = true ∧
      overlaps ⟨100, 199⟩ ⟨199, 300⟩ = true ∧ overlaps ⟨100, 199⟩ ⟨200, 300⟩ = false := by decide
  exact ⟨overlaps_iff, overlaps_comm, fun _ => overlaps_self, overlaps_wholeSpace, units⟩

/-! ### Conflict -/

theorem conflicts_iff (a : Range) (m : Mode) (b : Range) (n : Mode) :
    conflicts a m b n = true ↔ overlaps a b = true ∧ (m = .exclusive ∨ n = .exclusive) := by
  simp [conflicts]

theorem conflicts_comm (a : Range) (m : Mode) (b : Range) (n : Mode) : conflicts a m b n = conflicts b n a m := by
  rw [conflicts, conflicts, overlaps_comm, Bool.or_comm]

@[simp] theorem conflicts_shared_shared (a b : Range) : conflicts a .shared b .shared = false :=
  Bool.and_false _

/-- What stands in the way of a claim conflicts with it (R35). -/
theorem conflicts_of_standsInTheWay {stamp : Stamp} {range : Range} {mode : Mode} {r : Record}
    (h : standsInTheWay stamp range mode r = true) : conflicts r.range r.mode range mode = true :=
  Bool.and_elim_left h

/-- What objects to a ballot conflicts with it, its mode byte read by R3 (R68). -/
theorem conflicts_of_objectsTo {f : Frame} {b : Ballot} {r : Record} (h : objectsTo f b r = true) :
    conflicts r.range r.mode b.range (modeOfByte b.mode) = true :=
  conflicts_of_standsInTheWay h

/-! ### The wake rule on one record -/

theorem wakeRecord_waiting {hit : Range → Bool} {r : Record} (hk : r.kind = .own) (hs : r.state = .waiting)
    (hh : hit r.range = true) : wakeRecord hit r = newIssue r := by
  simp [wakeRecord, hk, hs, hh]

theorem wakeRecord_pending {hit : Range → Bool} {r : Record} (hk : r.kind = .own) (hs : r.state = .pending)
    (hh : hit r.range = true) : wakeRecord hit r = { r with releaseSeen := true } := by
  simp [wakeRecord, hk, hs, hh]

/-- Settles O2. -/
theorem conflictTest : Obligations.ConflictTest :=
  ⟨conflicts_iff, conflicts_comm, conflicts_shared_shared,
    fun _ _ _ => conflicts_of_objectsTo, fun _ _ _ _ => conflicts_of_standsInTheWay,
    fun _ _ hk hs hh => wakeRecord_waiting hk hs hh, fun _ _ hk hs hh => wakeRecord_pending hk hs hh⟩

end Sys2Proof.Machine
end

section
/-! PROOF. The egress arbiter (R128, R129): who is eligible, and the rows of the table. -/

namespace Sys2Proof.Machine

/-! ### The eligible candidates (R128) -/

theorem canSend_iff (s : State) : canSend s = true ↔ s.down.link = .up ∧ s.fh.inSend = none := by
  simp [canSend]

theorem transitCandidate_eq_some_iff {s : State} {f : Frame} :
    transitCandidate s = some f ↔
      s.fh.transit.head? = some { frame := f, cond := .ready } ∧ 1 ≤ s.down.credit := by
  unfold transitCandidate
  cases s.fh.transit with
  | nil => simp
  | cons e later =>
    obtain ⟨frame, cond⟩ := e
    simp only [Option.ite_none_right_eq_some, Option.some.injEq, List.head?_cons, TransitEntry.mk.injEq]
    tauto

theorem originationCandidate_eq_some_iff {s : State} {g : Frame} :
    originationCandidate s = some g ↔ s.fh.origination.head? = some g ∧ 2 ≤ s.down.credit := by
  unfold originationCandidate
  cases s.fh.origination with
  | nil => simp
  | cons own later => simp [and_comm]

theorem transitEligible_iff (s : State) (f : Frame) :
    (s.down.link = .up ∧ s.fh.inSend = none ∧
      s.fh.transit.head? = some { frame := f, cond := .ready } ∧ 1 ≤ s.down.credit) ↔
    canSend s = true ∧ transitCandidate s = some f := by
  rw [canSend_iff, transitCandidate_eq_some_iff, and_assoc]

theorem ownEligible_iff (s : State) (g : Frame) :
    (s.down.link = .up ∧ s.fh.inSend = none ∧ s.fh.origination.head? = some g ∧ 2 ≤ s.down.credit) ↔
    canSend s = true ∧ originationCandidate s = some g := by
  rw [canSend_iff, originationCandidate_eq_some_iff, and_assoc]

/-- Where a send can begin, the only way not to be eligible is to have no candidate. -/
theorem candidate_eq_none {α : Type} {can : Bool} {candidate : Option α} (hc : can = true)
    (h : ∀ f, ¬ (can = true ∧ candidate = some f)) : candidate = none :=
  Option.eq_none_iff_forall_ne_some.mpr fun f hf => h f ⟨hc, hf⟩

/-! ### The rows of the table (R129) -/

section
variable {s : State} {f g : Frame}

theorem exec_arbiterChoice (s : State) : exec .arbiterChoice s = execArbiterChoice s := by
  rfl

theorem exec_arbiterChoice_cannotSend (hc : canSend s = false) : exec .arbiterChoice s = .next s := by
  simp [exec_arbiterChoice, execArbiterChoice, hc]

theorem exec_arbiterChoice_noCandidate (ht : transitCandidate s = none) (ho : originationCandidate s = none) :
    exec .arbiterChoice s = .next s := by
  simp [exec_arbiterChoice, execArbiterChoice, ht, ho]

theorem exec_arbiterChoice_transitAlone (hc : canSend s = true) (ht : transitCandidate s = some f)
    (ho : originationCandidate s = none) : exec .arbiterChoice s = .next (beginSend f .transit 0 s) := by
  simp [exec_arbiterChoice, execArbiterChoice, hc, ht, ho]

theorem exec_arbiterChoice_ownAlone (hc : canSend s = true) (ht : transitCandidate s = none)
    (ho : originationCandidate s = some g) : exec .arbiterChoice s = .next (beginSend g .origination 0 s) := by
  simp [exec_arbiterChoice, execArbiterChoice, hc, ht, ho]

theorem exec_arbiterChoice_both (hc : canSend s = true) (ht : transitCandidate s = some f)
    (ho : originationCandidate s = some g) :
    exec .arbiterChoice s = .next (if s.fh.arbiterPos < Config.arbiterLimit
      then beginSend f .transit (s.fh.arbiterPos + 1) s else beginSend g .origination 0 s) := by
  simp [exec_arbiterChoice, execArbiterChoice, hc, ht, ho]

end

/-- Settles O50: eligible is to be a candidate where a send can begin, and each clause is a row of the table. -/
theorem arbiterChooses : Obligations.ArbiterChooses := by
  intro s
  simp only [transitEligible_iff, ownEligible_iff]
  refine ⟨?transitAlone, ?ownAlone, ?belowLimit, ?atLimit, ?nobody⟩
  case transitAlone =>
    rintro f ⟨hc, ht⟩ noOwn
    exact exec_arbiterChoice_transitAlone hc ht (candidate_eq_none hc noOwn)
  case ownAlone =>
    rintro g ⟨hc, ho⟩ noTransit
    exact exec_arbiterChoice_ownAlone hc (candidate_eq_none hc noTransit) ho
  case belowLimit =>
    rintro f g ⟨hc, ht⟩ ⟨-, ho⟩ position
    have below : s.fh.arbiterPos < Config.arbiterLimit := Nat.lt_succ_of_le position
    rw [exec_arbiterChoice_both hc ht ho, if_pos below, beginSend]
  case atLimit =>
    rintro f g ⟨hc, ht⟩ ⟨-, ho⟩ position
    have reached : ¬ s.fh.arbiterPos < Config.arbiterLimit := position.ge.not_gt
    rw [exec_arbiterChoice_both hc ht ho, if_neg reached, beginSend]
  case nobody =>
    intro noTransit noOwn
    cases hc : canSend s with
    | false => exact exec_arbiterChoice_cannotSend hc
    | true =>
      exact exec_arbiterChoice_noCandidate (candidate_eq_none hc noTransit) (candidate_eq_none hc noOwn)

end Sys2Proof.Machine
end

section
/-! PROOF. How an event that reads the table ends: a rule for each way of making a `Reading`, and what the passes,
the wake rule and the retirements do to the table whether or not a read meets a check error. -/

namespace Sys2Proof.Machine

/-! ### The two ends of an event -/

/-- The event ends in a state of `done`, or stops at a check error in a state of `failed`. -/
def Reading.Ends (done failed : State → Prop) : Reading → Prop
  | .done s => done s
  | .failed _ s => failed s

section
variable {done done' failed failed' : State → Prop} {r : Reading}

@[simp] theorem ends_done (s : State) : (Reading.done s).Ends done failed ↔ done s := Iff.rfl
@[simp] theorem ends_failed (i : SlotNo) (s : State) : (Reading.failed i s).Ends done failed ↔ failed s := Iff.rfl

theorem Reading.Ends.mono (h : r.Ends done failed) (hd : ∀ s, done s → done' s) (hf : ∀ s, failed s → failed' s) :
    r.Ends done' failed' := by
  cases r with
  | done s => exact hd s h
  | failed i s => exact hf s h

theorem Reading.Ends.andThen {k : State → Reading} (h : r.Ends done failed) (hk : ∀ s, done s → (k s).Ends done' failed')
    (hf : ∀ s, failed s → failed' s) :
    (r.andThen k).Ends done' failed' := by
  cases r with
  | done s => exact hk s h
  | failed i s => exact hf s h

/-- The end of the event at the station, given what a table check makes of a stopped one (R28). -/
theorem Reading.Ends.settle {p : State → Prop} (h : r.Ends done failed) (hd : ∀ s, done s → p s)
    (hf : ∀ i s, failed s → p (tableCheck i s)) : p r.settle := by
  cases r with
  | done s => exact hd s h
  | failed i s => exact hf i s h

end

/-! ### Slots rewritten one by one -/

/-- Only the table has changed. -/
def TableOnly (s t : State) : Prop := t = { s with table := t.table }

theorem TableOnly.refl (s : State) : TableOnly s s := rfl

theorem TableOnly.trans {s t u : State} (h : TableOnly s t) (h' : TableOnly t u) : TableOnly s u := by
  unfold TableOnly at *
  rw [h', h]

/-- No slot has been damaged (R28). -/
def SoundKept (s t : State) : Prop := ∀ i, (s.table.get i).damaged = false → (t.table.get i).damaged = false

theorem SoundKept.refl (s : State) : SoundKept s s := fun _ h => h

theorem SoundKept.trans {s t u : State} (h : SoundKept s t) (h' : SoundKept t u) : SoundKept s u :=
  fun i hi => h' i (h i hi)

theorem SoundKept.undamaged {s t : State} (h : SoundKept s t) (hs : s.undamaged) : t.undamaged :=
  fun i => h i (hs i)

/-- Every slot's record has been rewritten by `f`. -/
def Rewritten (f : SlotNo → Record → Option Record) (s t : State) : Prop :=
  TableOnly s t ∧ SoundKept s t ∧ ∀ i, t.record i = (s.record i).bind (f i)

/-- Every slot's record has been rewritten by `f` or left, as a pass that stops half-way does (R28). -/
def PartlyRewritten (f : SlotNo → Record → Option Record) (s t : State) : Prop :=
  TableOnly s t ∧ SoundKept s t ∧ ∀ i, t.record i = (s.record i).bind (f i) ∨ t.record i = s.record i

theorem Rewritten.partly {f : SlotNo → Record → Option Record} {s t : State} (h : Rewritten f s t) :
    PartlyRewritten f s t := ⟨h.1, h.2.1, fun i => .inl (h.2.2 i)⟩

theorem passOver_ends (reads : Record → Bool) (f : SlotNo → Record → Option Record) (s : State) :
    (passOver reads f s).Ends (Rewritten f s) (PartlyRewritten f s) := by
  cases hb : firstBad reads s.table with
  | none =>
    rw [passOver, hb]
    exact ⟨rfl, fun i hi => by simpa using hi, record_mapIdx s f⟩
  | some e =>
    rw [passOver_failed f hb]
    refine ⟨rfl, fun i hi => ?_, fun i => ?_⟩
    · rw [Table.get_mapIdx]; split <;> simpa using hi
    · simp only [State.record, Table.get_mapIdx]
      split
      · exact .inl (rewriteSlot_content f i _)
      · exact .inr rfl

/-! ### One slot written -/

theorem record_writeRecord (i j : SlotNo) (r : Record) (s : State) :
    (writeRecord i r s).record j = if i = j then some r else s.record j := by
  by_cases h : i = j
  · subst h; simp
  · simp [h]

theorem record_freeSlot (i j : SlotNo) (s : State) :
    (freeSlot i s).record j = if i = j then none else s.record j := by
  by_cases h : i = j
  · subst h; simp
  · simp [h]

theorem tableOnly_writeRecord (i : SlotNo) (r : Record) (s : State) : TableOnly s (writeRecord i r s) := rfl
theorem tableOnly_freeIfDone (i : SlotNo) (s : State) : TableOnly s (freeIfDone i s) := rfl

theorem soundKept_writeRecord (i : SlotNo) (r : Record) (s : State) : SoundKept s (writeRecord i r s) := by
  intro j hj
  simp only [writeRecord, Table.get_set]
  split
  · rfl
  · exact hj

theorem soundKept_freeSlot (i : SlotNo) (s : State) : SoundKept s (freeSlot i s) := by
  intro j hj
  simp only [freeSlot, Table.get_set]
  split
  · rfl
  · exact hj

theorem soundKept_freeIfDone (i : SlotNo) (s : State) : SoundKept s (freeIfDone i s) := by
  intro j hj
  simp only [freeIfDone]
  split
  · rw [Table.get_set]
    split
    · rfl
    · exact hj
  · exact hj

/-- What is kept of a record is the record. -/
theorem eq_of_keepUnlessDone {r q : Record} (h : keepUnlessDone r = some q) :
    q = r ∧ ¬ (r.state = .retired ∧ r.due = none ∧ r.notice = none) := by
  unfold keepUnlessDone at h
  split at h
  · cases h
  · exact ⟨(Option.some.inj h).symm, ‹_›⟩

/-! ### The wake rule and the retirements -/

/-- The wake rule rewrites each record by itself where dues are allowed, and does nothing elsewhere; it can stop where dues
are allowed alone (R46). -/
theorem wakeOver_ends (hit : Range → Bool) (s : State) :
    (wakeOver hit s).Ends
      (Rewritten (fun _ r => some (if dueAllowed s.ctl.state then wakeRecord hit r else r)) s)
      (fun t => dueAllowed s.ctl.state = true ∧ PartlyRewritten (fun _ r => some (wakeRecord hit r)) s t) := by
  unfold wakeOver
  by_cases hd : dueAllowed s.ctl.state = true
  · simp only [hd, if_true]
    exact (passOver_ends _ _ s).mono (fun _ h => h) fun _ h => ⟨trivial, h⟩
  · simp only [hd]
    exact ⟨rfl, SoundKept.refl s, fun i => by cases s.record i <;> rfl⟩

/-- The wake rule does nothing to a RETIRED record. -/
theorem wakeRecord_retired {hit : Range → Bool} {r : Record} (h : r.state = .retired) : wakeRecord hit r = r := by
  simp [wakeRecord, h]

/-- A record written as RETIRED, the wake rule over the others, and the freeing when it holds neither mark: the table
alone changes, each record by itself (R25, R46, R55, R86). -/
def RetiredAt (i : SlotNo) (q : Record) (hit : Range → Bool) (s t : State) : Prop :=
  TableOnly s t ∧ SoundKept s t ∧ t.record i = keepUnlessDone q ∧
    ∀ j, j ≠ i → t.record j =
      (s.record j).map fun r => if dueAllowed s.ctl.state then wakeRecord hit r else r

/-- The same, stopped at a read of the wake rule: no slot freed, some records woken (R28). -/
def PartlyRetiredAt (i : SlotNo) (q : Record) (hit : Range → Bool) (s t : State) : Prop :=
  dueAllowed s.ctl.state = true ∧ TableOnly s t ∧ SoundKept s t ∧ t.record i = some q ∧
    ∀ j, j ≠ i → t.record j = (s.record j).map (wakeRecord hit) ∨ t.record j = s.record j

theorem retirement_ends (i : SlotNo) {q : Record} (hq : q.state = .retired) (hit : Range → Bool) (s : State) :
    ((wakeOver hit (writeRecord i q s)).andThen fun t => .done (freeIfDone i t)).Ends
      (RetiredAt i q hit s) (PartlyRetiredAt i q hit s) := by
  have hst : (writeRecord i q s).ctl.state = s.ctl.state := rfl
  refine (wakeOver_ends hit (writeRecord i q s)).andThen ?done ?failed
  case done =>
    rintro t ⟨only, sound, rec⟩
    refine ⟨((tableOnly_writeRecord i q s).trans only).trans (tableOnly_freeIfDone i t),
      ((soundKept_writeRecord i q s).trans sound).trans (soundKept_freeIfDone i t), ?_, fun j hj => ?_⟩
    · rw [freeIfDone_record, if_pos rfl, rec, record_writeRecord_self]
      simp [wakeRecord_retired hq]
    · rw [freeIfDone_record, if_neg (Ne.symm hj), rec, record_writeRecord_ne _ _ _ _ (Ne.symm hj), hst]
      cases s.record j <;> rfl
  case failed =>
    rintro t ⟨allowed, only, sound, rec⟩
    refine ⟨allowed, (tableOnly_writeRecord i q s).trans only, (soundKept_writeRecord i q s).trans sound, ?_,
      fun j hj => ?_⟩
    · have := rec i
      rw [record_writeRecord_self] at this
      simpa [wakeRecord_retired hq] using this
    · have := rec j
      rw [record_writeRecord_ne _ _ _ _ (Ne.symm hj)] at this
      cases hr : s.record j <;> simpa [hr] using this

@[simp] theorem retireOwn_state (st : StationState) (out : RecOutcome) (reason : ReleaseReason) (notice : Option Notice)
    (r : Record) : (retireOwn st out reason notice r).state = .retired := by cases notice <;> rfl
@[simp] theorem retireOwn_kind (st : StationState) (out : RecOutcome) (reason : ReleaseReason) (notice : Option Notice)
    (r : Record) : (retireOwn st out reason notice r).kind = r.kind := by cases notice <;> rfl

theorem retireSlot_ends (i : SlotNo) (r : Record) (out : RecOutcome) (reason : ReleaseReason) (notice : Option Notice)
    (s : State) :
    (retireSlot i r out reason notice s).Ends
      (RetiredAt i (retireOwn s.ctl.state out reason notice r) (overlaps · r.range) s)
      (PartlyRetiredAt i (retireOwn s.ctl.state out reason notice r) (overlaps · r.range) s) :=
  retirement_ends i (retireOwn_state ..) _ s

end Sys2Proof.Machine
end

section
/-! PROOF. The moves of the station: what one command can do, said once. A move is a change after which every invariant
stands again; a command is a run of moves. The moves are grouped by what they touch: one record at a time, a port, the
shadow unit, the frame handler, the census unit, the station state. -/

namespace Sys2Proof.Machine

/-! ### Records -/

/-- What an event can make of one record, in a station state, when the record stays in its slot. -/
inductive Turn (st : StationState) (r : Record) : Record → Prop
  | same : Turn st r r
  /-- The wake rule (R46). -/
  | woken (hit : Range → Bool) (allowed : dueAllowed st = true) : Turn st r (wakeRecord hit r)
  /-- An own record enters RETIRED and holds a mark, its loss count ended by a return if it was one (R25, R26, R41). -/
  | retired (out : RecOutcome) (reason : ReleaseReason) (notice : Option Notice) (k : Nat) (own : r.kind = .own)
      (open' : r.state ≠ .retired) (bound : k ≤ r.lossCount)
      (held : (retireOwn st out reason notice { r with lossCount := k }).due.isSome ∨
        (retireOwn st out reason notice { r with lossCount := k }).notice.isSome) :
      Turn st r (retireOwn st out reason notice { r with lossCount := k })
  /-- A shadow enters RETIRED and holds a mark (R25, R84, R86). -/
  | lapsed (out : RecOutcome) (reason : ReleaseReason) (shadow : r.kind = .shadow) (open' : r.state ≠ .retired)
      (held : (retireShadow st out reason r).due.isSome ∨ (retireShadow st out reason r).notice.isSome) : Turn st r (retireShadow st out reason r)
  /-- A new issue after a ballot's return or loss (R37, R43, R45). -/
  | reissued (k : Nat) (own : r.kind = .own) (pending : r.state = .pending) (timed : r.mainTimer.isSome)
      (bound : k ≤ Config.lossLimit) : Turn st r (newIssue { r with lossCount := k })
  /-- A genuine return without objector (R42). -/
  | granted (term : Word16) (own : r.kind = .own) (pending : r.state = .pending) (timed : r.mainTimer.isSome) :
      Turn st r (grantRecord term { r with lossCount := 0, mainTimer := none })
  /-- A return with objectors (R44). -/
  | waits (own : r.kind = .own) (pending : r.state = .pending) (timed : r.mainTimer.isSome) :
      Turn st r (enterWaiting .remote { r with lossCount := 0, mainTimer := none })
  /-- A local scan that is blocked before the ballot is built (R38). -/
  | blocked (due : r.due = some .ballot) : Turn st r (enterWaiting .localScan r)
  /-- RENEW (R51). -/
  | renewed (term : Word16) (active : st = .active) (own : r.kind = .own) (held : r.state = .granted) :
      Turn st r { r with mainTimer := some term, due := some (.announce .renew) }
  /-- The record objects to a ballot (R68). -/
  | objected : Turn st r { r with objected := true }
  /-- The notice is drained and the record stays (R24, R26, R176). -/
  | drained (kept : r.state = .retired → r.due.isSome) : Turn st r { r with notice := none }
  /-- The ANNOUNCE or RELEASE is served and the record stays (R22, R26, R126). -/
  | served (due : r.due ≠ some .ballot)
      (kept : r.state = .retired → r.notice.isSome ∨ ∃ c, r.due = some (.announce c)) :
      Turn st r { r with due := none }
  /-- A foreign ANNOUNCE refreshes a shadow (R81). -/
  | refreshed (term : Word16) (shadow : r.kind = .shadow) (open' : r.state ≠ .retired)
      (allowed : dueAllowed st = true) : Turn st r (refreshShadow term r)
  /-- The tick (R32, R79). -/
  | tickedOwn (warning : Word16) : Turn st r (tickOwn warning r)
  | tickedShadow : Turn st r (tickShadow r)

/-! ### Ports -/

/-- What an event can make of the upstream port without the station's other blocks (R97 to R101, R106, R108). -/
inductive UpMove (s : State) : UpstreamPort → Prop
  | farSeen : UpMove s { s.up with farLock := s.up.farLock || readsSymbols s.up.link }
  | farSet (locked : s.up.receiveLock = true) : UpMove s { s.up with farLock := true }
  | farCleared (below : s.up.link ≠ .up) : UpMove s { s.up with farLock := false }
  | unlocked (training : s.up.link = .training) : UpMove s { s.up with receiveLock := false, farLock := false }
  | retrained (waiting : s.up.link = .creditWait) :
      UpMove s { s.up with link := .training, receiveLock := false, farLock := false, advertisementOwed := false }
  | locked (training : s.up.link = .training) :
      UpMove s { s.up with link := .creditWait, receiveLock := true, advertisementOwed := true }
  | rebased (up : s.up.link = .up) :
      UpMove s { s.up with farLock := true, advertisementOwed := true }
  | advertised (up : s.up.link = .up) : UpMove s { s.up with advertisementOwed := false }
  | opened (waiting : s.up.link = .creditWait) (far : s.up.farLock = true) :
      UpMove s { s.up with link := .up, advertisementOwed := false, badRun := 0 }
  | rejected (up : s.up.link = .up) (n : Nat) (bound : n ≤ Config.badFrameLimit) : UpMove s { s.up with badRun := n }

/-- The same of the downstream port (R97 to R102). -/
inductive DownMove (s : State) : DownstreamPort → Prop
  | farSeen : DownMove s { s.down with farLock := s.down.farLock || readsSymbols s.down.link }
  | farSet (locked : s.down.receiveLock = true) : DownMove s { s.down with farLock := true }
  | farCleared (below : s.down.link ≠ .up) : DownMove s { s.down with farLock := false }
  | unlocked (training : s.down.link = .training) :
      DownMove s { s.down with receiveLock := false, farLock := false }
  | locked (training : s.down.link = .training) :
      DownMove s { s.down with link := .creditWait, receiveLock := true, credit := 0 }
  | credited (up : s.down.link = .up) (bound : s.down.credit < Config.fullCredit) :
      DownMove s { s.down with credit := s.down.credit + 1 }
  | opened (waiting : s.down.link = .creditWait) :
      DownMove s { s.down with link := .up, farLock := true, credit := Config.fullCredit }

/-- The upstream port has left UP as `u`: the transit queue is flushed, and a downstream port in UP is rebased (R105,
R109, R121). -/
def lostUp (u : UpstreamPort) (s : State) : State :=
  let v := flushTransit { s with up := u }
  if s.down.link = .up then sendRebase { v with down := { v.down with link := .creditWait, credit := 0 } } else v

/-- The downstream port has left UP or CREDIT_WAIT as `d`, its send cut off (R95, R101). -/
def cutDown (d : DownstreamPort) (s : State) : State :=
  { s with down := d, fh := { s.fh with inSend := none } }

/-! ### The shadow unit -/

/-- What an event can make of the shadow unit within a station state (R66, R78, R82, R83, R89, R91, R92). -/
inductive ShadowMove (s : State) : ShadowUnit → Prop
  | incomplete (allowed : dueAllowed s.ctl.state = true) : ShadowMove s { s.shadow with incomplete := true }
  | objected (fence : s.fenceActive = true) : ShadowMove s { s.shadow with fenceObjected := true }
  | ended (due : Bool) (owed : due = true → s.shadow.fenceEndDue = true ∨ dueAllowed s.ctl.state = true) :
      ShadowMove s { s.shadow with fence := none, fenceObjected := false, fenceEndDue := due }
  | served : ShadowMove s { s.shadow with fenceEndDue := false }

/-! ### The frame handler -/

/-- The frame that FRAME_TAKING takes, in a queue that need not stand in order. -/
structure Awaits (s : State) (ready : List TransitEntry) (f : Frame) (later : List TransitEntry) : Prop where
  queue : s.fh.transit = ready ++ { frame := f, cond := .awaiting } :: later
  before : ∀ e ∈ ready, e.cond = .ready
  after : ∀ e ∈ later, e.cond ≠ .inHand

/-- The state with another transit queue. -/
def withTransit (queue : List TransitEntry) (s : State) : State := { s with fh := { s.fh with transit := queue } }

/-- The state with another scan. -/
def withScan (scan : Option Scan) (s : State) : State := { s with scan := scan }

/-- The state with another census unit. -/
def withCensus (c : CensusUnit) (s : State) : State := { s with census := c }

/-- The state with another station state. -/
def withState (st : StationState) (s : State) : State := { s with ctl := { s.ctl with state := st } }

/-- The frame in send departs: it leaves its queue unless it has left, and is charged (R130). -/
def departed (x : InSend) (s : State) : State :=
  chargeCredit x (leaveAtDeparture x { s with fh := { s.fh with inSend := none } })

/-! ### Claims and entries to the station states -/

/-- The stamp of the claim that the station takes next (R8). -/
def nextStamp (s : State) : Stamp :=
  { epoch := s.census.epoch, count := stampClock s.clock, id := s.stationId }

/-- The state with the claim clock raised for a claim (R8). -/
def stamped (s : State) : State := { s with clock := stampClock s.clock }

/-- A claim is stamped, and enters a FREE slot PENDING when its local scan is clear, or WAITING; or it is not entered (R8, R17, R19, R36). -/
inductive Enters (s : State) : State → Prop
  | refused : Enters s (stamped s)
  | entered (i : SlotNo) (c : Record) (free : s.record i = none) (quota : ownCount s < Config.ownQuota)
      (mode : Mode) (range : Range) (tag : Word16) (noWait : Bool) (limit : Word16)
      (claim : c = newClaim (nextStamp s) mode range tag noWait limit ∨
        c = enterWaiting .localScan (newClaim (nextStamp s) mode range tag noWait limit)) :
      Enters s (writeRecord i c (stamped s))

/-- The steps of the entry to FORMING beside the table (R149). -/
def formingUnits (s : State) : State :=
  let u := flushOrigination (abandonScan s)
  { u with
    shadow := { u.shadow with fenceEndDue := false },
    census := { u.census with censusDue := false, rosterDue := none, retryTimer := none,
                              formationTimer := some u.ctl.config.formationLimit } }

/-- The steps of the entry to ISOLATED before the table (R145, R150). -/
def isolatedUnits (s : State) : State :=
  flushOrigination (restoreCensusDues
    { s with ctl := { s.ctl with state := .isolated }, census := { s.census with formationTimer := none } })

/-- The steps of the entry to DETACHED before the table (R159). -/
def detachedUnits (out : LeaveOutcome) (s : State) : State :=
  let u := flushTransit (portsOff
    { s with ctl := { s.ctl with state := .detached, leaveTimer := none, leaveOutcome := some out } })
  flushOrigination { u with ctl := { u.ctl with bypassn := false } }

/-- The steps of LEAVE before the table (R156). -/
def leavingUnits (s : State) : State :=
  { s with ctl := { s.ctl with state := .leaving, leaveTimer := some s.ctl.config.formationLimit, leaveOutcome := none } }

/-- What adoption makes of one record (R9, R58, R88). -/
def adoptRecord (s : State) (epoch : Word32) (members : List StationId) (i : SlotNo) (r : Record) : Record :=
  adoptShadow s.census.roster members s.ctl.config.orphanHold (adoptOwn s.table epoch s.stationId i r)

/-- The ROSTER that the station queues as it adopts (R138). -/
def rosterFrame (s : State) (epoch : Word32) (members : List StationId) : Frame :=
  ownFrame s epoch (.roster members)

/-! ### Events cut short -/

/-- An event has been cut short in `u`: what the halt that follows keeps of `u` it has from `s`, or it has begun an
adoption (R28, R160). -/
structure Partial (s u : State) : Prop where
  live : u.ctl.state ≠ .halted
  host : u.host = s.host
  resetn : u.resetn = s.resetn
  pending : u.pending = s.pending
  config : u.ctl.config = s.ctl.config
  configured : u.ctl.configured = s.ctl.configured
  ticks : u.ctl.tickCounter = s.ctl.tickCounter
  bestKey : u.census.bestKey = s.census.bestKey
  epoch : u.census.epoch = s.census.epoch ∨
    formingOrIsolated s.ctl.state = true ∧
      (EpochFit s → ∃ o, s.census.bestKey = some { epoch := u.census.epoch, origin := o })
  fields : RecordsFit s → ∀ i r, u.record i = some r → FieldsFit r
  quota : ownCount s ≤ Config.ownQuota → ownCount u ≤ Config.ownQuota

/-- The changes that no invariant speaks of: the station's marks, a raised claim clock, the tick counter in its bound, the
outstanding count and the record of what the lanes have carried. -/
structure Aside (s t : State) : Prop where
  only : t = { s with
    clock := t.clock
    ctl := { s.ctl with
      stateMark := t.ctl.stateMark, faultMark := t.ctl.faultMark, tickCounter := t.ctl.tickCounter }
    up := { s.up with sent := t.up.sent }
    down := { s.down with sent := t.down.sent }
    fh := { s.fh with outstanding := t.fh.outstanding } }
  clock : s.clock ≤ t.clock
  ticks : s.ctl.tickCounter < Config.refclkPerTick → t.ctl.tickCounter < Config.refclkPerTick

/-! ### Moves -/

/-- The moves of the station: none touches the host port, beside the halt, which empties the command queue. -/
inductive Move (s : State) : State → Prop
  | aside {t : State} (h : Aside s t) : Move s t
  | halt (cause : HaltCause) {u : State} (h : Partial s u) : Move s (enterHalted cause u)
  /-- Records turn, each by itself, or are freed. -/
  | turn {t : State} (only : TableOnly s t) (sound : SoundKept s t)
      (each : ∀ i r', t.record i = some r' → ∃ r, s.record i = some r ∧ Turn s.ctl.state r r') : Move s t
  | shadowed (i : SlotNo) (identity : Stamp) (a : Announce) (free : s.record i = none)
      (allowed : dueAllowed s.ctl.state = true) : Move s (writeRecord i (newShadow identity a) s)
  | stamp {u : State} (enters : Enters s u) (active : s.ctl.state = .active) (limit : u.clock ≤ Config.clockLimit) :
      Move s u
  | upPort {u : UpstreamPort} (h : UpMove s u) : Move s { s with up := u }
  | downPort {d : DownstreamPort} (h : DownMove s d) : Move s { s with down := d }
  | downTrained {d : DownstreamPort} (waiting : s.down.link = .creditWait) (link : d.link = .training)
      (credit : d.credit = 0) (far : d.farLock = true → d.receiveLock = true) : Move s (cutDown d s)
  | upLost {u : UpstreamPort} (up : s.up.link = .up) (link : u.link = .training)
      (owed : u.advertisementOwed = false)
      (far : (s.up.farLock = true → s.up.receiveLock = true) → u.farLock = true → u.receiveLock = true)
      (run : s.up.badRun ≤ Config.badFrameLimit → u.badRun ≤ Config.badFrameLimit) :
      Move s (lostUp u s)
  | downLost {d : DownstreamPort} (up : s.down.link = .up) (link : d.link = .training) (credit : d.credit = 0)
      (far : d.farLock = true → d.receiveLock = true) : Move s (flushTransit (cutDown d s))
  | shadowUnit {v : ShadowUnit} (h : ShadowMove s v) : Move s { s with shadow := v }
  | arrived (f : Frame) (up : s.up.link = .up) (room : s.fh.transit.length < Config.transitDepth) :
      Move s (goodFrame f s)
  | takenOut {ready later : List TransitEntry} {f : Frame} (h : Awaits s ready f later) :
      Move s (withTransit (ready ++ later) s)
  | takenOn {ready later : List TransitEntry} {f : Frame} (g : Frame) (h : Awaits s ready f later) :
      Move s (withTransit (ready ++ { frame := g, cond := .ready } :: later) s)
  | scanBegun {ready later : List TransitEntry} {f : Frame} (h : Awaits s ready f later)
      (ballot : isBallot f = true) (allowed : dueAllowed s.ctl.state = true) :
      Move s (withScan (some { nextSlot := 0, objection := false })
        (withTransit (ready ++ { frame := f, cond := .inHand } :: later) s))
  | scanMoved (x : Scan) (running : s.scan.isSome) (bound : x.nextSlot < 64) : Move s (withScan (some x) s)
  | scanEnded (g : Frame) (running : s.scan.isSome) : Move s (readyHand g (withScan none s))
  | queued (f : Frame) (room : s.fh.origination.length < Config.originationDepth)
      (allowed : dueAllowed s.ctl.state = true) (noBallot : ballotOf f = none) : Move s (enqueue f s)
  | censusQueued (f : Frame) (room : s.fh.origination.length < Config.originationDepth)
      (working : formingOrIsolated s.ctl.state = true) (census : isCensus f = true) :
      Move s (withCensus { s.census with censusDue := false } (enqueue f s))
  | ballotQueued (i : SlotNo) (r : Record) (room : s.fh.origination.length < Config.originationDepth)
      (allowed : dueAllowed s.ctl.state = true) (held : s.record i = some r) (due : r.due = some .ballot)
      (clear : ∀ j q, j ≠ i → s.record j = some q → standsInTheWay r.identity r.range r.mode q = false) :
      Move s (enqueue (ballotFrame r s) (writeRecord i { r with due := none } s))
  | sendBegun (f : Frame) (src : SendSource) (position : Nat) (can : canSend s = true)
      (bound : position ≤ Config.arbiterLimit)
      (candidate : match src with
        | .transit => s.fh.transit.head? = some { frame := f, cond := .ready }
        | .origination => s.fh.origination.head? = some f) : Move s (beginSend f src position s)
  | departed {x : InSend} (sending : s.fh.inSend = some x) : Move s (departed x s)
  | keyAccepted (k : Key) (working : formingOrIsolated s.ctl.state = true)
      (above : aboveBest k s.census.bestKey = true) : Move s (withCensus (acceptKey k s.census) s)
  | proposed (top : Word32) (working : formingOrIsolated s.ctl.state = true) (room : top ≠ Config.maxWord32)
      (epoch : s.census.epoch ≤ top) (best : ∀ k, s.census.bestKey = some k → k.epoch ≤ top) :
      Move s (proposeEpoch (top + 1) s)
  | rosterOwed (d : RosterDue) (working : formingOrIsolated s.ctl.state = true)
      (best : s.census.bestKey = some { epoch := d.epoch, origin := s.stationId }) :
      Move s (withCensus { s.census with rosterDue := some d } s)
  | retryTimed (timer : Option Word16) (working : formingOrIsolated s.ctl.state = true) :
      Move s (withCensus { s.census with retryTimer := timer } s)
  | unitsTicked : Move s (tickUnits s)
  | formed {u v : State} (enters : u = s ∨ Enters s u) (active : s.ctl.state = .active)
      (room : s.census.epoch ≠ Config.maxWord32)
      (table : Rewritten (fun _ r => clearDue (formingOwn r)) (withState .forming u) v) :
      Move s (proposeEpoch (v.census.epoch + 1) (formingUnits v))
  | formedBy (k : Key) {v : State} (active : s.ctl.state = .active) (newer : s.census.epoch < k.epoch)
      (table : Rewritten (fun _ r => clearDue (formingOwn r)) (withState .forming s) v) :
      Move s (withCensus (if aboveBest k v.census.bestKey then acceptKey k (formingUnits v).census
        else (formingUnits v).census) (formingUnits v))
  | isolated {v : State} (forming : s.ctl.state = .forming)
      (table : Rewritten (fun _ r => (clearDue r).bind fun q => dropShadow (isolateOwn q)) (isolatedUnits s) v) :
      Move s (clearShadowUnit v)
  | detached (out : LeaveOutcome) {v : State} (leaving : s.ctl.state = .leaving)
      (table : Rewritten (fun _ r => (clearDue r).bind dropShadow) (detachedUnits out s) v) :
      Move s (stopCensus (clearShadowUnit v))
  | left {v : State} (active : s.ctl.state = .active)
      (table : Rewritten (fun _ r => some (leaveRecord r)) (leavingUnits s) v) : Move s v
  | adopted (epoch : Word32) (members : List StationId) {u v : State} (working : formingOrIsolated s.ctl.state = true)
      (best : EpochFit s → ∃ o, s.census.bestKey = some { epoch := epoch, origin := o })
      (queued : u = s ∨ s.fh.origination.length < Config.originationDepth ∧
        u = enqueue (rosterFrame s epoch members) s)
      (only : v = { adoptBase epoch members u with
        table := v.table, clock := BitVec.ofNat 32 (s.table.count ownWaiting) })
      (sound : SoundKept s v)
      (table : ∀ i, v.record i = (s.record i).map (adoptRecord s epoch members i)) : Move s (decideFence v)

/-- A run of moves. -/
abbrev Moves : State → State → Prop := Relation.ReflTransGen Move

end Sys2Proof.Machine
end

section
/-! PROOF. What the events of the table do to one record: the kind stays, and its fields go on fitting its kind and state
(R14 to R16, R21, R25, R26, R47). -/

namespace Sys2Proof.Machine

section
variable {r q : Record}

/-! ### Fields -/

theorem FieldsFit.newIssue (h : FieldsFit r) (own : r.kind = .own) (open' : r.state ≠ .retired) :
    FieldsFit (newIssue r) := by
  obtain ⟨-, -, limit, -, outcome, -, notice, loss⟩ := h
  constructor <;> simp_all [Machine.newIssue]

theorem FieldsFit.enterWaiting (cause : WaitCause) (h : FieldsFit r) (own : r.kind = .own) (open' : r.state ≠ .retired) :
    FieldsFit (enterWaiting cause r) := by
  obtain ⟨-, -, limit, -, outcome, -, notice, loss⟩ := h
  cases hw : r.waitingReported <;> constructor <;> simp_all [Machine.enterWaiting, setNotice]

theorem FieldsFit.grantRecord (term : Word16) (h : FieldsFit r) (own : r.kind = .own) (open' : r.state ≠ .retired) :
    FieldsFit (grantRecord term r) := by
  obtain ⟨-, -, limit, -, outcome, -, notice, loss⟩ := h
  constructor <;> simp_all [Machine.grantRecord, setNotice]

theorem FieldsFit.retireOwn {st : StationState} {out : RecOutcome} {reason : ReleaseReason} {n : Option Notice}
    (h : FieldsFit r) (own : r.kind = .own) : FieldsFit (retireOwn st out reason n r) := by
  obtain ⟨-, -, -, -, -, -, notice, loss⟩ := h
  cases n <;> constructor <;> simp_all [Machine.retireOwn, setNotice]

theorem FieldsFit.retireShadow {st : StationState} {out : RecOutcome} {reason : ReleaseReason} (h : FieldsFit r)
    (shadow : r.kind = .shadow) (state : r.state ≠ .waiting) : FieldsFit (retireShadow st out reason r) := by
  obtain ⟨-, -, limit, cause, -, seen, notice, loss⟩ := h
  constructor <;> simp_all [Machine.retireShadow]

theorem FieldsFit.withDue (h : FieldsFit r) (due : Option Due) : FieldsFit { r with due := due } :=
  ⟨h.untimed, h.timed, h.limit, h.cause, h.outcome, h.seen, h.notice, h.loss⟩

theorem FieldsFit.withLossCount (h : FieldsFit r) {k : Nat} (bound : k ≤ Config.lossLimit) :
    FieldsFit { r with lossCount := k } :=
  ⟨h.untimed, h.timed, h.limit, h.cause, h.outcome, h.seen, h.notice, bound⟩

theorem FieldsFit.withoutNotice (h : FieldsFit r) : FieldsFit { r with notice := none } :=
  ⟨h.untimed, h.timed, h.limit, h.cause, h.outcome, h.seen, nofun, h.loss⟩

theorem FieldsFit.withTimer (h : FieldsFit r) (state : r.state = .pending ∨ r.state = .granted) (timer : Word16) :
    FieldsFit { r with mainTimer := some timer } := by
  refine ⟨fun hs => ?_, fun _ => rfl, h.limit, h.cause, h.outcome, h.seen, h.notice, h.loss⟩
  rcases state with hp | hg <;> simp_all

theorem FieldsFit.unTimed (h : FieldsFit r) (state : r.state = .pending) : FieldsFit { r with mainTimer := none } :=
  ⟨fun _ => rfl, by simp [state], h.limit, h.cause, h.outcome, h.seen, h.notice, h.loss⟩

theorem FieldsFit.setNotice (h : FieldsFit r) (own : r.kind = .own) (n : Notice) : FieldsFit (setNotice n r) :=
  ⟨h.untimed, h.timed, h.limit, h.cause, h.outcome, h.seen, fun _ => own, h.loss⟩

theorem FieldsFit.wakeRecord (h : FieldsFit r) (hit : Range → Bool) : FieldsFit (wakeRecord hit r) := by
  unfold Machine.wakeRecord
  split
  · rename_i hk
    split
    · rename_i hs
      exact h.newIssue hk.1 (by simp [hs])
    · rename_i hs
      exact ⟨h.untimed, h.timed, h.limit, h.cause, h.outcome, fun _ => ⟨hk.1, hs⟩, h.notice, h.loss⟩
    · exact h
  · exact h

theorem FieldsFit.formingOwn (h : FieldsFit r) : FieldsFit (formingOwn r) := by
  unfold Machine.formingOwn
  split
  · rename_i hk
    split
    · rename_i hs
      exact h.enterWaiting .epoch hk (by simp [hs])
    · exact ⟨h.untimed, h.timed, h.limit, h.cause, h.outcome, nofun, h.notice, h.loss⟩
  · exact h

theorem FieldsFit.clearDue (h : FieldsFit r) (hq : clearDue r = some q) : FieldsFit q := by
  obtain ⟨rfl, -⟩ := eq_of_keepUnlessDone hq
  exact h.withDue none

theorem FieldsFit.dropShadow (h : FieldsFit r) (hq : dropShadow r = some q) : FieldsFit q := by
  unfold Machine.dropShadow at hq
  split at hq
  · cases hq
  · cases hq; exact h

theorem FieldsFit.isolateOwn (h : FieldsFit r) : FieldsFit (isolateOwn r) := by
  unfold Machine.isolateOwn
  split
  · rename_i hk
    split
    · exact h.retireOwn hk
    · split
      · exact h.retireOwn hk
      · exact h
  · exact h

theorem FieldsFit.leaveRecord (h : FieldsFit r) : FieldsFit (leaveRecord r) := by
  unfold Machine.leaveRecord
  split
  · rename_i hk
    split
    · exact h.retireOwn hk
    · split
      · exact h.retireOwn hk
      · exact h
  · exact h

/-- The identity of a record has no part in the fit of its fields. -/
theorem FieldsFit.withIdentity (h : FieldsFit r) (x : Stamp) (issue : Byte) :
    FieldsFit { r with identity := x, issue := issue } :=
  ⟨h.untimed, h.timed, h.limit, h.cause, h.outcome, h.seen, h.notice, h.loss⟩

theorem FieldsFit.adoptOwn (h : FieldsFit r) (t : Table) (epoch : Word32) (id : StationId) (i : SlotNo) :
    FieldsFit (adoptOwn t epoch id i r) := by
  unfold Machine.adoptOwn
  split
  · rename_i hk hs
    exact ((h.newIssue hk (by simp [hs])).withLossCount (Nat.zero_le _)).withIdentity _ _
  · exact h.withDue _
  · exact h

theorem FieldsFit.adoptShadow (h : FieldsFit r) (previous new : List StationId) (hold : Word16) :
    FieldsFit (adoptShadow previous new hold r) := by
  unfold Machine.adoptShadow
  split
  · rename_i hl
    obtain ⟨hk, hs⟩ : r.kind = .shadow ∧ r.state = .live := by simpa [isLive] using hl.1
    obtain ⟨-, -, limit, cause, outcome, seen, notice, loss⟩ := h
    constructor <;> simp_all
  · exact h

theorem FieldsFit.countedDown (h : FieldsFit r) :
    FieldsFit { r with mainTimer := r.mainTimer.map countDown, waitLimit := r.waitLimit.map countDown } :=
  ⟨fun hs => by simp [h.untimed hs], fun hs => by simp [h.timed hs], fun hs => h.limit (by simpa using hs), h.cause, h.outcome,
    h.seen, h.notice, h.loss⟩

theorem FieldsFit.tickOwn (h : FieldsFit r) (warning : Word16) : FieldsFit (tickOwn warning r) := by
  unfold Machine.tickOwn
  split
  · rename_i hk
    simp only
    split
    · split
      · exact h.countedDown.setNotice hk .termLow
      · exact h.countedDown
    · exact h.countedDown
  · exact h

theorem FieldsFit.tickShadow (h : FieldsFit r) : FieldsFit (tickShadow r) := by
  unfold Machine.tickShadow
  split
  · exact ⟨fun hs => by simp [h.untimed hs], fun hs => by simp [h.timed hs], h.limit, h.cause, h.outcome, h.seen,
      h.notice, h.loss⟩
  · exact h

theorem FieldsFit.refreshShadow (h : FieldsFit r) (term : Word16) (shadow : r.kind = .shadow)
    (state : r.state = .live ∨ r.state = .orphaned) : FieldsFit (refreshShadow term r) := by
  obtain ⟨-, -, limit, cause, outcome, seen, notice, loss⟩ := h
  constructor <;> simp_all [Machine.refreshShadow]
  all_goals rcases state with hs | hs <;> simp_all

theorem fieldsFit_newClaim (stamp : Stamp) (mode : Mode) (range : Range) (tag : Word16) (noWait : Bool) (limit : Word16) :
    FieldsFit (newClaim stamp mode range tag noWait limit) := by
  constructor <;> simp [newClaim]

theorem fieldsFit_newShadow (identity : Stamp) (a : Announce) : FieldsFit (newShadow identity a) := by
  constructor <;> simp [newShadow]

/-! ### Kinds -/

@[simp] theorem newIssue_kind (r : Record) : (newIssue r).kind = r.kind := rfl
@[simp] theorem grantRecord_kind (term : Word16) (r : Record) : (grantRecord term r).kind = r.kind := rfl
@[simp] theorem setNotice_kind (n : Notice) (r : Record) : (setNotice n r).kind = r.kind := rfl
@[simp] theorem retireShadow_kind (st : StationState) (out : RecOutcome) (reason : ReleaseReason) (r : Record) :
    (retireShadow st out reason r).kind = r.kind := rfl
@[simp] theorem refreshShadow_kind (term : Word16) (r : Record) : (refreshShadow term r).kind = r.kind := rfl

@[simp] theorem enterWaiting_kind (cause : WaitCause) (r : Record) : (enterWaiting cause r).kind = r.kind := by
  unfold enterWaiting; split <;> rfl

@[simp] theorem wakeRecord_kind (hit : Range → Bool) (r : Record) : (wakeRecord hit r).kind = r.kind := by
  unfold wakeRecord
  split
  · split <;> rfl
  · rfl

@[simp] theorem formingOwn_kind (r : Record) : (formingOwn r).kind = r.kind := by
  unfold formingOwn
  split
  · split
    · exact enterWaiting_kind ..
    · rfl
  · rfl

theorem clearDue_kind (h : clearDue r = some q) : q.kind = r.kind := by
  rw [(eq_of_keepUnlessDone h).1]

theorem dropShadow_eq (h : dropShadow r = some q) : q = r := by
  unfold dropShadow at h
  split at h
  · cases h
  · exact (Option.some.inj h).symm

@[simp] theorem isolateOwn_kind (r : Record) : (isolateOwn r).kind = r.kind := by
  unfold isolateOwn
  split
  · split
    · exact retireOwn_kind ..
    · split
      · exact retireOwn_kind ..
      · rfl
  · rfl

@[simp] theorem leaveRecord_kind (r : Record) : (leaveRecord r).kind = r.kind := by
  unfold leaveRecord
  split
  · split
    · exact retireOwn_kind ..
    · split
      · exact retireOwn_kind ..
      · rfl
  · rfl

@[simp] theorem adoptOwn_kind (t : Table) (epoch : Word32) (id : StationId) (i : SlotNo) (r : Record) :
    (adoptOwn t epoch id i r).kind = r.kind := by
  unfold adoptOwn; split <;> rfl

@[simp] theorem adoptShadow_kind (previous new : List StationId) (hold : Word16) (r : Record) :
    (adoptShadow previous new hold r).kind = r.kind := by
  unfold adoptShadow; split <;> rfl

@[simp] theorem tickOwn_kind (warning : Word16) (r : Record) : (tickOwn warning r).kind = r.kind := by
  unfold tickOwn
  split
  · simp only
    split
    · split <;> rfl
    · rfl
  · rfl

@[simp] theorem tickShadow_kind (r : Record) : (tickShadow r).kind = r.kind := by
  unfold tickShadow; split <;> rfl

theorem Turn.kind {st : StationState} (h : Turn st r q) : q.kind = r.kind := by
  cases h <;> simp

end

/-! ### The number of own records -/

/-- The own records of the later state stand in slots that held own records. -/
theorem ownCount_mono {s t : State}
    (h : ∀ i q, t.record i = some q → q.kind = .own → ∃ r, s.record i = some r ∧ r.kind = .own) :
    ownCount t ≤ ownCount s := by
  unfold ownCount Table.count
  refine List.countP_mono_left fun i _ hi => ?_
  cases hq : (t.table.get i).content with
  | none => simp [hq] at hi
  | some q =>
    obtain ⟨r, hr, hk⟩ := h i q hq (by simpa [hq] using hi)
    have hr : (s.table.get i).content = some r := hr
    simp [hr, hk]

/-- One slot more can hold an own record. -/
theorem ownCount_le_succ {s t : State} (i : SlotNo) (h : ∀ j, j ≠ i → t.record j = s.record j) :
    ownCount t ≤ ownCount s + 1 := by
  unfold ownCount Table.count
  rw [List.countP_eq_length_filter, List.countP_eq_length_filter, ← List.length_cons (a := i)]
  refine ((List.nodup_finRange 64).filter _).subperm (fun j hj => ?_) |>.length_le
  by_cases hji : j = i
  · exact hji ▸ List.mem_cons_self
  · have hc : (t.table.get j).content = (s.table.get j).content := h j hji
    rw [List.mem_filter, hc] at hj
    exact List.mem_cons_of_mem _ (List.mem_filter.2 hj)

end Sys2Proof.Machine
end

section
/-! PROOF. The shared operations as runs of moves, whether or not a read meets a check error: the table check, retirements,
and the entries to the station states. -/

namespace Sys2Proof.Machine

/-! ### Events cut short -/

section
variable {s u v w t : State}

theorem RecordsFit.fields (h : RecordsFit s) (i : SlotNo) (r : Record) (hr : s.record i = some r) : FieldsFit r :=
  (h i r hr).2.1

/-- The station as it stands, when it is not halted. -/
theorem Partial.refl (live : s.ctl.state ≠ .halted) : Partial s s :=
  ⟨live, rfl, rfl, rfl, rfl, rfl, rfl, rfl, .inl rfl, RecordsFit.fields, id⟩

/-- Each record of the later state is made of the one that stood in its slot, of its kind and with fields that fit. -/
def Reworked (w v : State) : Prop :=
  ∀ i q, v.record i = some q → ∃ r, w.record i = some r ∧ q.kind = r.kind ∧ (FieldsFit r → FieldsFit q)

/-- A rewriting of records that keeps kinds and the fit of fields. -/
def Respects (f : SlotNo → Record → Option Record) : Prop :=
  ∀ i r q, f i r = some q → q.kind = r.kind ∧ (FieldsFit r → FieldsFit q)

theorem Reworked.refl (s : State) : Reworked s s := fun _ q h => ⟨q, h, rfl, id⟩

theorem Reworked.trans (h : Reworked w v) (h' : Reworked v u) : Reworked w u := by
  intro i q hq
  obtain ⟨r, hr, hk, hf⟩ := h' i q hq
  obtain ⟨r', hr', hk', hf'⟩ := h i r hr
  exact ⟨r', hr', hk.trans hk', fun h => hf (hf' h)⟩

theorem PartlyRewritten.reworked {f : SlotNo → Record → Option Record} (h : PartlyRewritten f w v) (hf : Respects f) :
    Reworked w v := by
  intro i q hq
  rcases h.2.2 i with hi | hi
  · rw [hq] at hi
    obtain ⟨r, hr, hr'⟩ := Option.bind_eq_some_iff.1 hi.symm
    exact ⟨r, hr, hf i r q hr'⟩
  · exact ⟨q, hi ▸ hq, rfl, id⟩

theorem Reworked.ownCount_le (h : Reworked w v) : ownCount v ≤ ownCount w :=
  ownCount_mono fun i q hq hk =>
    let ⟨r, hr, hk', _⟩ := h i q hq
    ⟨r, hr, hk' ▸ hk⟩

/-- An event cut short that has rewritten more records is cut short still. -/
theorem Partial.rework (h : Partial s w) (only : TableOnly w v) (re : Reworked w v) : Partial s v := by
  have hv : v = { w with table := v.table } := only
  obtain ⟨live, host, resetn, pending, config, configured, ticks, bestKey, epoch, fields, quota⟩ := h
  refine ⟨?_, ?_, ?_, ?_, ?_, ?_, ?_, ?_, ?_, fun hs i q hq => ?_, fun hs => re.ownCount_le.trans (quota hs)⟩
  case refine_10 =>
    obtain ⟨r, hr, -, hf⟩ := re i q hq
    exact hf (fields hs i r hr)
  all_goals rw [hv]; assumption

/-- A check error cuts the event short, and the station halts (R28, R160). -/
theorem Partial.tableCheck (h : Partial s u) (i : SlotNo) : Move s (tableCheck i u) := by
  rw [Machine.tableCheck, if_neg h.live]
  exact .halt _ h

theorem Reading.Ends.moves {r : Reading} (h : r.Ends (Moves s) (Partial s)) : Moves s r.settle :=
  h.settle (fun _ h => h) fun i _ hu => .single (hu.tableCheck i)

/-- A record is rewritten in its slot. -/
theorem moves_writeRecord {i : SlotNo} {r q : Record} (hr : s.record i = some r) (h : Turn s.ctl.state r q) :
    Move s (writeRecord i q s) := by
  refine .turn rfl (soundKept_writeRecord i q s) fun j x hx => ?_
  rw [record_writeRecord] at hx
  split at hx
  · rename_i hij
    cases hx
    exact ⟨r, hij ▸ hr, h⟩
  · exact ⟨x, hx, .same⟩

/-- A slot is freed. -/
theorem moves_freeSlot (i : SlotNo) (s : State) : Move s (freeSlot i s) := by
  refine .turn rfl (soundKept_freeSlot i s) fun j x hx => ?_
  rw [record_freeSlot] at hx
  split at hx
  · cases hx
  · exact ⟨x, hx, .same⟩

/-- The check error of a read before which nothing has changed (R28). -/
theorem moves_tableCheck (i : SlotNo) (s : State) : Move s (tableCheck i s) := by
  by_cases h : s.ctl.state = .halted
  · rw [Machine.tableCheck, if_pos h]
    exact moves_freeSlot i s
  · exact (Partial.refl h).tableCheck i

/-! ### Retirements and the wake rule -/

theorem not_halted_of_dueAllowed (h : dueAllowed s.ctl.state = true) : s.ctl.state ≠ .halted := by
  intro e
  rw [e] at h
  cases h

theorem respects_wakeRecord (hit : Range → Bool) : Respects fun _ r => some (wakeRecord hit r) := by
  rintro i r q ⟨⟩
  exact ⟨wakeRecord_kind .., fun h => h.wakeRecord hit⟩

theorem wakeOver_moves (hit : Range → Bool) (s : State) : (wakeOver hit s).Ends (Moves s) (Partial s) := by
  refine (wakeOver_ends hit s).mono ?done ?failed
  case done =>
    rintro t ⟨only, sound, rec⟩
    refine .single (.turn only sound fun i q hq => ?_)
    rw [rec] at hq
    obtain ⟨r, hr, hq⟩ := Option.bind_eq_some_iff.1 hq
    refine ⟨r, hr, ?_⟩
    split at hq
    · rename_i hd
      cases hq
      exact .woken hit hd
    · cases hq
      exact .same
  case failed =>
    rintro t ⟨hd, h⟩
    exact (Partial.refl (not_halted_of_dueAllowed hd)).rework h.1 (h.reworked (respects_wakeRecord hit))

theorem wake_moves (range : Range) (s : State) : (wake range s).Ends (Moves s) (Partial s) := wakeOver_moves _ s

/-- A retirement is one move, the wake rule's changes being moves of the other records. -/
theorem RetiredAt.move {i : SlotNo} {r q : Record} {hit : Range → Bool} (h : RetiredAt i q hit s t)
    (hr : s.record i = some r) (turn : q.due.isSome ∨ q.notice.isSome → Turn s.ctl.state r q)
    (hq : q.state = .retired) : Move s t := by
  obtain ⟨only, sound, slot, others⟩ := h
  refine .turn only sound fun j x hx => ?_
  by_cases hj : j = i
  · subst hj
    rw [slot] at hx
    obtain ⟨rfl, kept⟩ := eq_of_keepUnlessDone hx
    refine ⟨r, hr, turn ?_⟩
    simp only [hq, true_and, not_and_or, ← ne_eq, Option.ne_none_iff_isSome] at kept
    exact kept
  · rw [others j hj] at hx
    obtain ⟨y, hy, rfl⟩ := Option.map_eq_some_iff.1 hx
    refine ⟨y, hy, ?_⟩
    split
    · rename_i hd
      exact .woken hit hd
    · exact .same

theorem PartlyRetiredAt.cutShort {i : SlotNo} {r q : Record} {hit : Range → Bool} (h : PartlyRetiredAt i q hit s t)
    (hr : s.record i = some r) (kind : q.kind = r.kind) (fields : RecordsFit s → FieldsFit q) : Partial s t := by
  obtain ⟨allowed, only, sound, slot, others⟩ := h
  have ht : t = { s with table := t.table } := only
  have each : ∀ j x, t.record j = some x →
      ∃ y, s.record j = some y ∧ x.kind = y.kind ∧ (RecordsFit s → FieldsFit x) := by
    intro j x hx
    by_cases hj : j = i
    · subst hj
      rw [slot] at hx
      cases hx
      exact ⟨r, hr, kind, fields⟩
    · rcases others j hj with h | h
      · rw [h] at hx
        obtain ⟨y, hy, rfl⟩ := Option.map_eq_some_iff.1 hx
        exact ⟨y, hy, wakeRecord_kind .., fun hs => (hs.fields j y hy).wakeRecord hit⟩
      · exact ⟨x, h ▸ hx, rfl, fun hs => hs.fields j x (h ▸ hx)⟩
  refine ⟨?_, ?_, ?_, ?_, ?_, ?_, ?_, ?_, .inl ?_, fun hs j x hx => ?_, fun hs => ?_⟩
  case refine_10 =>
    obtain ⟨-, -, -, hf⟩ := each j x hx
    exact hf hs
  case refine_11 =>
    refine (ownCount_mono fun j x hx hk => ?_).trans hs
    obtain ⟨y, hy, hk', -⟩ := each j x hx
    exact ⟨y, hy, hk' ▸ hk⟩
  case refine_1 => rw [ht]; exact not_halted_of_dueAllowed allowed
  all_goals rw [ht]

/-- An own record retires; at a ballot's return its timer has been stopped and its loss count may have ended (R41, R55). -/
theorem retireReturned_moves {i : SlotNo} {r : Record} {k : Nat} (hr : s.record i = some r) (own : r.kind = .own)
    (open' : r.state ≠ .retired) (bound : k ≤ r.lossCount) (out : RecOutcome) (reason : ReleaseReason)
    (notice : Option Notice) :
    (retireSlot i { r with lossCount := k, mainTimer := none } out reason notice s).Ends (Moves s) (Partial s) :=
  (retireSlot_ends i _ out reason notice s).mono
    (fun _ h => .single (h.move hr (.retired out reason notice k own open' bound) (retireOwn_state ..)))
    (fun _ h => h.cutShort hr (retireOwn_kind ..) fun hs =>
      ((hs.fields i r hr).withLossCount (bound.trans (hs.fields i r hr).loss)).retireOwn own)

theorem retireSlot_moves {i : SlotNo} {r : Record} (hr : s.record i = some r) (own : r.kind = .own)
    (open' : r.state ≠ .retired) (out : RecOutcome) (reason : ReleaseReason) (notice : Option Notice) :
    (retireSlot i r out reason notice s).Ends (Moves s) (Partial s) :=
  retireReturned_moves hr own open' (le_refl _) out reason notice

/-- A shadow is LIVE, ORPHANED or RETIRED (R15). -/
theorem RecordsFit.shadow_state (h : RecordsFit s) {i : SlotNo} {r : Record} (hr : s.record i = some r)
    (shadow : r.kind = .shadow) (open' : r.state ≠ .retired) : r.state = .live ∨ r.state = .orphaned := by
  have := (h i r hr).1
  cases hs : r.state <;> simp_all [stateFits]

/-- The retirement of a shadow with the wake rule that follows it (R84, R86). -/
theorem retiredShadow_moves {i : SlotNo} {r : Record} (hr : s.record i = some r) (shadow : r.kind = .shadow)
    (open' : r.state ≠ .retired) (out : RecOutcome) (reason : ReleaseReason) (hit : Range → Bool) :
    ((wakeOver hit (writeRecord i (retireShadow s.ctl.state out reason r) s)).andThen
      fun t => .done (freeIfDone i t)).Ends (Moves s) (Partial s) := by
  refine (retirement_ends i (q := retireShadow s.ctl.state out reason r) rfl hit s).mono ?done ?failed
  case done =>
    intro t h
    exact .single (h.move hr (.lapsed out reason shadow open') rfl)
  case failed =>
    intro t h
    refine h.cutShort hr rfl fun hs => (hs.fields i r hr).retireShadow shadow ?_
    rcases hs.shadow_state hr shadow open' with h | h <;> simp [h]

end

end Sys2Proof.Machine
end

section
/-! PROOF. The entries to the station states as moves, whether or not a read meets a check error (R133, R141, R149, R150,
R156, R159). -/

namespace Sys2Proof.Machine

section
variable {s u v w t : State}

/-! ### Two passes -/

/-- The table alone has been worked on, as far as the event went. -/
def WorkedOn (s t : State) : Prop := TableOnly s t ∧ Reworked s t

theorem WorkedOn.trans (h : WorkedOn s t) (h' : WorkedOn t u) : WorkedOn s u := ⟨h.1.trans h'.1, h.2.trans h'.2⟩

theorem PartlyRewritten.workedOn {f : SlotNo → Record → Option Record} (h : PartlyRewritten f s t) (hf : Respects f) :
    WorkedOn s t := ⟨h.1, h.reworked hf⟩

theorem Partial.work (h : Partial s w) (worked : WorkedOn w v) : Partial s v := h.rework worked.1 worked.2

theorem passOver_worksOn (reads : Record → Bool) {f : SlotNo → Record → Option Record} (hf : Respects f) (s : State) :
    (passOver reads f s).Ends (Rewritten f s) (WorkedOn s) :=
  (passOver_ends reads f s).mono (fun _ h => h) fun _ h => h.workedOn hf

/-- A pass that follows a pass. -/
theorem Rewritten.andThen {f g : SlotNo → Record → Option Record} (h : Rewritten f s t) (h' : Rewritten g t u) :
    Rewritten (fun i r => (f i r).bind (g i)) s u := by
  refine ⟨h.1.trans h'.1, h.2.1.trans h'.2.1, fun i => ?_⟩
  rw [h'.2.2, h.2.2, Option.bind_assoc]

theorem passes_workOn {k : State → Reading} {f g : SlotNo → Record → Option Record} {r : Reading} (hf : Respects f)
    (h : r.Ends (Rewritten f s) (WorkedOn s)) (hk : ∀ t, (k t).Ends (Rewritten g t) (WorkedOn t)) :
    (r.andThen k).Ends (Rewritten (fun i r => (f i r).bind (g i)) s) (WorkedOn s) :=
  h.andThen (fun _ ht => (hk _).mono (fun _ hu => ht.andThen hu) fun _ hu => (ht.partly.workedOn hf).trans hu)
    fun _ ht => ht

theorem respects_some {f : SlotNo → Record → Record} (kind : ∀ i r, (f i r).kind = r.kind)
    (fields : ∀ i r, FieldsFit r → FieldsFit (f i r)) : Respects fun i r => some (f i r) := by
  rintro i r q ⟨⟩
  exact ⟨kind i r, fields i r⟩

theorem respects_clearDue : Respects fun _ r => clearDue r :=
  fun _ _ _ hq => ⟨clearDue_kind hq, fun h => h.clearDue hq⟩

theorem respects_dropShadow : Respects fun _ r => dropShadow r :=
  fun _ _ _ hq => ⟨congrArg _ (dropShadow_eq hq), fun h => h.dropShadow hq⟩

theorem respects_formingOwn : Respects fun _ r => some (formingOwn r) :=
  respects_some (fun _ => formingOwn_kind) fun _ _ h => h.formingOwn

theorem respects_isolateOwn : Respects fun _ r => some (isolateOwn r) :=
  respects_some (fun _ => isolateOwn_kind) fun _ _ h => h.isolateOwn

theorem respects_leaveRecord : Respects fun _ r => some (leaveRecord r) :=
  respects_some (fun _ => leaveRecord_kind) fun _ _ h => h.leaveRecord

theorem Respects.bind {f g : SlotNo → Record → Option Record} (hf : Respects f) (hg : Respects g) :
    Respects fun i r => (f i r).bind (g i) := by
  intro i r q hq
  obtain ⟨x, hx, hq⟩ := Option.bind_eq_some_iff.1 hq
  obtain ⟨kf, ff⟩ := hf i r x hx
  obtain ⟨kg, fg⟩ := hg i x q hq
  exact ⟨kg.trans kf, fun h => fg (ff h)⟩

theorem formingTable_ends (s : State) :
    (formingTable s).Ends (Rewritten (fun _ r => clearDue (formingOwn r)) s) (WorkedOn s) :=
  passes_workOn respects_formingOwn (passOver_worksOn _ respects_formingOwn s)
    (fun t => passOver_worksOn _ respects_clearDue t)

theorem isolateTable_ends (s : State) :
    (isolateTable s).Ends (Rewritten (fun _ r => (clearDue r).bind fun q => dropShadow (isolateOwn q)) s)
      (WorkedOn s) := by
  refine (passes_workOn (respects_clearDue.bind respects_isolateOwn)
    (passes_workOn respects_clearDue (passOver_worksOn _ respects_clearDue s)
      (fun t => passOver_worksOn _ respects_isolateOwn t))
    (fun t => passOver_worksOn _ respects_dropShadow t)).mono (fun t ⟨h1, h2, h3⟩ => ⟨h1, h2, fun i => ?_⟩)
    fun _ h => h
  rw [h3]
  cases s.record i with
  | none => rfl
  | some r => cases h : clearDue r <;> simp [h]

theorem detachTable_ends (s : State) :
    (detachTable s).Ends (Rewritten (fun _ r => (clearDue r).bind dropShadow) s) (WorkedOn s) :=
  passes_workOn respects_clearDue (passOver_worksOn _ respects_clearDue s)
    (fun t => passOver_worksOn _ respects_dropShadow t)

/-! ### Forming -/

theorem aside_markStateNow (st : StationState) (out : Option LeaveOutcome) (s : State) :
    Aside s (markStateNow st out s) := ⟨rfl, BitVec.le_refl _, id⟩

theorem stamped_le (s : State) : s.clock ≤ stampClock s.clock := by
  unfold stampClock
  split
  · rename_i h; exact BitVec.le_of_eq h
  · bv_omega

/-- The claim that has been entered is the only record that is new. -/
theorem Enters.record (h : Enters s u) (i : SlotNo) (q : Record) (hq : u.record i = some q) :
    s.record i = some q ∨ FieldsFit q := by
  cases h with
  | refused => exact .inl hq
  | entered j c free quota mode range tag noWait limit claim =>
    rw [record_writeRecord] at hq
    split at hq
    · cases hq
      right
      have hf := fieldsFit_newClaim (nextStamp s) mode range tag noWait limit
      rcases claim with rfl | rfl
      · exact hf
      · exact hf.enterWaiting .localScan rfl (by simp [newClaim])
    · exact .inl hq

theorem Enters.ownCount (h : Enters s u) (bound : ownCount s ≤ Config.ownQuota) : ownCount u ≤ Config.ownQuota := by
  cases h with
  | refused => exact bound
  | entered j c free quota =>
    exact (ownCount_le_succ j fun i hi => record_writeRecord_ne _ _ _ _ (Ne.symm hi)).trans quota

theorem Enters.cutShort (h : Enters s u) (live : s.ctl.state ≠ .halted) : Partial s u := by
  have fields : RecordsFit s → ∀ i q, u.record i = some q → FieldsFit q :=
    fun hs i q hq => (h.record i q hq).elim (hs.fields i q) id
  have quota := h.ownCount
  cases h <;> exact ⟨live, rfl, rfl, rfl, rfl, rfl, rfl, rfl, .inl rfl, fields, quota⟩

/-- An event cut short may have gone on beside the table, where a halt keeps nothing of it. -/
theorem Partial.of_parts (h : Partial s u) (live : v.ctl.state ≠ .halted) (table : v.table = u.table)
    (host : v.host = u.host) (resetn : v.resetn = u.resetn) (pending : v.pending = u.pending) (config : v.ctl.config = u.ctl.config)
    (configured : v.ctl.configured = u.ctl.configured) (ticks : v.ctl.tickCounter = u.ctl.tickCounter)
    (bestKey : v.census.bestKey = u.census.bestKey) (epoch : v.census.epoch = u.census.epoch) : Partial s v := by
  have hr : v.record = u.record := by funext i; simp only [State.record, table]
  have ho : ownCount v = ownCount u := by simp only [Machine.ownCount, table]
  exact ⟨live, host.trans h.host, resetn.trans h.resetn, pending.trans h.pending, config.trans h.config, configured.trans h.configured,
    ticks.trans h.ticks, bestKey.trans h.bestKey, by rw [epoch]; exact h.epoch, by rw [hr]; exact h.fields,
    by rw [ho]; exact h.quota⟩

theorem Partial.withState (h : Partial s u) {st : StationState} (live : st ≠ .halted) : Partial s (withState st u) :=
  h.of_parts live rfl rfl rfl rfl rfl rfl rfl rfl rfl

/-- The parts of the entry to FORMING that a halt keeps are those of the state before. -/
theorem Partial.formingUnits (h : Partial s v) : Partial s (formingUnits v) := by
  unfold Machine.formingUnits abandonScan
  split <;> exact h.of_parts h.live rfl rfl rfl rfl rfl rfl rfl rfl rfl

theorem formingBase_ends (s : State) :
    (formingBase s).Ends (fun t => ∃ v, Rewritten (fun _ r => clearDue (formingOwn r)) (withState .forming s) v ∧
      t = formingUnits v) (WorkedOn (withState .forming s)) :=
  (formingTable_ends (withState .forming s)).andThen (fun v hv => ⟨v, hv, rfl⟩) fun _ h => h

theorem Rewritten.workedOn {f : SlotNo → Record → Option Record} (h : Rewritten f s t) (hf : Respects f) :
    WorkedOn s t := h.partly.workedOn hf

theorem respects_clearForming : Respects fun _ r => clearDue (formingOwn r) :=
  respects_formingOwn.bind respects_clearDue

@[simp] theorem formingUnits_epoch (v : State) : (formingUnits v).census.epoch = v.census.epoch := by
  unfold formingUnits abandonScan; split <;> rfl

/-- The entry to FORMING proposes the next epoch, or ends in HALTED at the last (R133, R149, R160). -/
theorem enterForming_ends (u : State) :
    (enterForming u).Ends
      (fun t => ∃ v, Rewritten (fun _ r => clearDue (formingOwn r)) (withState .forming u) v ∧
        t = if v.census.epoch = Config.maxWord32
          then enterHalted .epochExhausted (markStateNow .forming none (formingUnits v))
          else markStateNow .forming none (proposeEpoch (v.census.epoch + 1) (formingUnits v)))
      (WorkedOn (withState .forming u)) := by
  refine (formingBase_ends u).andThen ?_ fun _ h => h
  rintro t ⟨v, table, rfl⟩
  rw [formingUnits_epoch]
  split
  · exact ⟨v, table, (if_pos ‹_›).symm⟩
  · exact ⟨v, table, (if_neg ‹_›).symm⟩

theorem enterForming_moves (enters : u = s ∨ Enters s u) (active : s.ctl.state = .active) :
    (enterForming u).Ends (Moves s) (Partial s) := by
  have live : s.ctl.state ≠ .halted := by simp [active]
  have base : Partial s (withState .forming u) := by
    rcases enters with rfl | h
    · exact (Partial.refl live).withState (by simp)
    · exact (h.cutShort live).withState (by simp)
  have epoch : u.census.epoch = s.census.epoch := by
    rcases enters with rfl | h
    · rfl
    · cases h <;> rfl
  refine (enterForming_ends u).mono ?done fun _ h => base.work h
  rintro t ⟨v, table, rfl⟩
  have units : Partial s (formingUnits v) := (base.work (table.workedOn respects_clearForming)).formingUnits
  have hv : v.census.epoch = s.census.epoch := by rw [table.1]; exact epoch
  split
  · have halted : Partial s (markStateNow .forming none (formingUnits v)) :=
      units.of_parts units.live rfl rfl rfl rfl rfl rfl rfl rfl rfl
    exact .single (.halt _ halted)
  · rename_i room
    exact .tail (.single (.formed enters active (hv ▸ room) table)) (.aside (aside_markStateNow ..))

/-! ### Isolated, detached, leaving -/

theorem enterIsolated_moves (forming : s.ctl.state = .forming) : (enterIsolated s).Ends (Moves s) (Partial s) := by
  have base : Partial s (isolatedUnits s) :=
    (Partial.refl (by simp [forming])).of_parts (by simp [isolatedUnits]) rfl rfl rfl rfl rfl rfl rfl rfl rfl
  refine (isolateTable_ends (isolatedUnits s)).andThen ?done fun _ h => base.work h
  intro v table
  exact .tail (.single (.isolated forming table)) (.aside (aside_markStateNow ..))

theorem enterDetached_ends (out : LeaveOutcome) (s : State) :
    (enterDetached out s).Ends
      (fun t => ∃ v, Rewritten (fun _ r => (clearDue r).bind dropShadow) (detachedUnits out s) v ∧
        t = markStateNow .detached (some out) (stopCensus (clearShadowUnit v)))
      (WorkedOn (detachedUnits out s)) :=
  (detachTable_ends (detachedUnits out s)).andThen (fun v table => ⟨v, table, rfl⟩) fun _ h => h

theorem Partial.detachedUnits (h : Partial s u) (out : LeaveOutcome) : Partial s (detachedUnits out u) :=
  h.of_parts (by simp [Machine.detachedUnits]) rfl rfl rfl rfl rfl rfl rfl rfl rfl

theorem enterDetached_moves (leaving : s.ctl.state = .leaving) (out : LeaveOutcome) :
    (enterDetached out s).Ends (Moves s) (Partial s) := by
  refine (enterDetached_ends out s).mono ?done
    fun _ h => ((Partial.refl (by simp [leaving])).detachedUnits out).work h
  rintro t ⟨v, table, rfl⟩
  exact .tail (.single (.detached out leaving table)) (.aside (aside_markStateNow ..))

theorem stationAfterPortLoss_moves (s : State) : (stationAfterPortLoss s).Ends (Moves s) (Partial s) := by
  unfold stationAfterPortLoss
  split
  · exact enterForming_moves (.inl rfl) ‹_›
  · exact enterDetached_moves ‹_› _
  · exact .refl

/-! ### Adoption -/

/-- What adoption makes of the state before the fence is decided (R9, R58, R88, R141). -/
def AdoptedTable (epoch : Word32) (members : List StationId) (u v : State) : Prop :=
  v = { adoptBase epoch members u with
    table := v.table, clock := BitVec.ofNat 32 (u.table.count ownWaiting) } ∧
  SoundKept u v ∧ ∀ i, v.record i = (u.record i).map (adoptRecord u epoch members i)

/-- An adoption cut short by a read that met a check error. -/
def AdoptionCut (epoch : Word32) (members : List StationId) (u t : State) : Prop :=
  ∃ clock, WorkedOn { adoptBase epoch members u with clock := clock } t

theorem adoptClaims_ends (epoch : Word32) (members : List StationId) (u : State) :
    (adoptClaims epoch (adoptBase epoch members u)).Ends
      (fun t => ∃ x, Rewritten (fun i r => some (adoptOwn u.table epoch u.stationId i r)) (adoptBase epoch members u) x ∧
        t = { x with clock := BitVec.ofNat 32 (u.table.count ownWaiting) })
      (AdoptionCut epoch members u) := by
  have own : Respects fun i r => some (adoptOwn u.table epoch u.stationId i r) :=
    respects_some (fun _ _ => adoptOwn_kind ..) fun _ _ h => h.adoptOwn ..
  exact (passOver_worksOn isOpenOwn own (adoptBase epoch members u)).andThen (fun x hx => ⟨x, hx, rfl⟩)
    fun t ht => ⟨0, ht⟩

theorem adoptShadows_ends (epoch : Word32) (members : List StationId) {u x : State}
    (claims : Rewritten (fun i r => some (adoptOwn u.table epoch u.stationId i r)) (adoptBase epoch members u) x) :
    (adoptShadows { x with clock := BitVec.ofNat 32 (u.table.count ownWaiting) }).Ends
      (fun t => ∃ v, AdoptedTable epoch members u v ∧ t = decideFence v) (AdoptionCut epoch members u) := by
  have own : Respects fun i r => some (adoptOwn u.table epoch u.stationId i r) :=
    respects_some (fun _ _ => adoptOwn_kind ..) fun _ _ h => h.adoptOwn ..
  have orphans : Respects fun _ r => some (adoptShadow u.census.roster members u.ctl.config.orphanHold r) :=
    respects_some (fun _ _ => adoptShadow_kind ..) fun _ _ h => h.adoptShadow ..
  have hx : x = { adoptBase epoch members u with table := x.table } := claims.1
  have shadows := passOver_worksOn isLive orphans { x with clock := BitVec.ofNat 32 (u.table.count ownWaiting) }
  have same : adoptShadows { x with clock := BitVec.ofNat 32 (u.table.count ownWaiting) } =
      (passOver isLive (fun _ r => some (adoptShadow u.census.roster members u.ctl.config.orphanHold r))
        { x with clock := BitVec.ofNat 32 (u.table.count ownWaiting) }).andThen fun s => .done (decideFence s) := by
    rw [adoptShadows, hx]
    rfl
  rw [same]
  refine shadows.andThen (fun v hv => ⟨v, ⟨?_, claims.2.1.trans hv.2.1, fun i => ?_⟩, rfl⟩) fun t ht =>
    ⟨BitVec.ofNat 32 (u.table.count ownWaiting), ?_⟩
  · rw [hv.1, hx]
  · have hxi : State.record { x with clock := BitVec.ofNat 32 (u.table.count ownWaiting) } i =
        (u.record i).bind fun r => some (adoptOwn u.table epoch u.stationId i r) := claims.2.2 i
    rw [hv.2.2, hxi]
    cases u.record i <;> rfl
  · refine WorkedOn.trans (t := { x with clock := BitVec.ofNat 32 (u.table.count ownWaiting) }) ⟨?_, ?_⟩ ht
    · rw [hx]; rfl
    · exact (claims.workedOn own).2

theorem adopt_ends (epoch : Word32) (members : List StationId) (u : State) :
    (adopt epoch members u).Ends
      (fun t => ∃ v, AdoptedTable epoch members u v ∧ t = markStateNow .active none (decideFence v))
      (AdoptionCut epoch members u) := by
  have shadows : ((adoptClaims epoch (adoptBase epoch members u)).andThen adoptShadows).Ends
      (fun t => ∃ v, AdoptedTable epoch members u v ∧ t = decideFence v) (AdoptionCut epoch members u) := by
    refine (adoptClaims_ends epoch members u).andThen ?_ fun _ h => h
    rintro y ⟨x, hx, rfl⟩
    exact adoptShadows_ends epoch members hx
  refine shadows.andThen ?_ fun _ h => h
  rintro t ⟨v, table, rfl⟩
  exact ⟨v, table, rfl⟩

theorem adopt_moves {epoch : Word32} {members : List StationId} (working : formingOrIsolated s.ctl.state = true)
    (best : EpochFit s → ∃ o, s.census.bestKey = some { epoch := epoch, origin := o })
    (queued : u = s ∨ s.fh.origination.length < Config.originationDepth ∧ u = enqueue (rosterFrame s epoch members) s) :
    (adopt epoch members u).Ends (Moves s) (Partial s) := by
  have live : s.ctl.state ≠ .halted := by intro e; simp [e, formingOrIsolated] at working
  refine (adopt_ends epoch members u).mono ?done ?failed
  case done =>
    rintro t ⟨v, ⟨only, sound, table⟩, rfl⟩
    refine .tail (.single (.adopted epoch members working best queued ?_ ?_ ?_)) (.aside (aside_markStateNow ..))
    · rcases queued with rfl | ⟨-, rfl⟩ <;> exact only
    · rcases queued with rfl | ⟨-, rfl⟩ <;> exact sound
    · rcases queued with rfl | ⟨-, rfl⟩ <;> exact table
  case failed =>
    rintro t ⟨clock, worked⟩
    have base : Partial s { adoptBase epoch members u with clock := clock } := by
      rcases queued with rfl | ⟨-, rfl⟩ <;>
        exact ⟨by simp [adoptBase], rfl, rfl, rfl, rfl, rfl, rfl, rfl, .inr ⟨working, best⟩, RecordsFit.fields, id⟩
    exact base.work worked

end

end Sys2Proof.Machine
end

section
/-! PROOF. The rows of the host's commands, of the drains and of the timers as runs of moves. -/

namespace Sys2Proof.Machine

section
variable {s u t : State}

/-- Moves between a change of the host port before them and one behind them. -/
def HostMoves (s t : State) : Prop :=
  ∃ before after u, Moves { s with host := before } u ∧ t = { u with host := after }

theorem hostMoves_of_moves (h : Moves s t) : HostMoves s t := ⟨s.host, t.host, t, h, rfl⟩

theorem hostMoves_host (h : HostPort) (s : State) : HostMoves s { s with host := h } := ⟨h, h, _, .refl, rfl⟩

/-! ### Commands taken -/

/-- A command is taken, or nothing happens (R170). -/
theorem takeCommand_cases (which : Option HostCommand) (body : CommandEntry → State → Completion × State) (s : State) :
    takeCommand which body s = s ∨
      ∃ e rest, s.host.commands = e :: rest ∧ commandGranted s = true ∧ hostCommand (byteAt e.bytes 0) = which ∧
        takeCommand which body s = placeCompletion e (body e { s with host := { s.host with commands := rest } }).1
          (body e { s with host := { s.host with commands := rest } }).2 := by
  unfold takeCommand
  split
  · exact .inl rfl
  · rename_i e rest queue
    split
    · rename_i taken
      exact .inr ⟨e, rest, queue, taken.1, taken.2, rfl⟩
    · exact .inl rfl

theorem moves_takeCommand (which : Option HostCommand) {body : CommandEntry → State → Completion × State}
    (h : ∀ e u, Moves u (body e u).2) (s : State) : HostMoves s (takeCommand which body s) := by
  obtain same | ⟨e, rest, -, -, -, same⟩ := takeCommand_cases which body s
  · rw [same]
    exact hostMoves_of_moves .refl
  · rw [same]
    exact ⟨_, _, _, h e _, rfl⟩

theorem moves_ifConfigured {body : CommandEntry → State → Completion × State} (e : CommandEntry)
    (h : Moves s (body e s).2) : Moves s (ifConfigured body e s).2 := by
  unfold ifConfigured
  split
  · exact h
  · exact .refl

theorem moves_finishCommand (c failed : Completion) {r : Reading} (h : r.Ends (Moves s) (Partial s)) :
    Moves s (finishCommand c failed r).2 := by
  cases r with
  | done t => exact h
  | failed i t => exact .single (h.tableCheck i)

theorem namedSlot_own {b : Byte} {i : SlotNo} {r : Record} (h : namedSlot b s = .own i r) :
    s.record i = some r ∧ r.kind = .own ∧ (s.table.get i).damaged = false := by
  unfold namedSlot at h
  split at h
  · simp only at h
    split at h
    · cases h
    · cases h
    · rename_i hd hc
      split at h
      · cases h
        exact ⟨hc, ‹_›, hd⟩
      · cases h
  · cases h

/-- A command on a named slot, given what it does to an own record there. -/
theorem moves_onNamedSlot (e : CommandEntry) {act : SlotNo → Record → Completion → Completion × State}
    (h : ∀ i r c, s.record i = some r → r.kind = .own → Moves s (act i r c).2) : Moves s (onNamedSlot e s act).2 := by
  unfold onNamedSlot
  simp only
  split
  · exact .refl
  · exact .refl
  · exact .single (moves_tableCheck _ s)
  · rename_i i r hn
    obtain ⟨hr, hk, -⟩ := namedSlot_own hn
    exact h i r _ hr hk

/-! ### Claims -/

theorem lowestFree_free {i : SlotNo} (h : lowestFree s = some i) : s.record i = none := (lowestFree_eq_some.1 h).1

theorem moves_endClaim {c failed : Completion} (enters : Enters s u) (active : s.ctl.state = .active)
    (clock : u.clock = stampClock s.clock) : Moves s (endClaim (stampClock s.clock) c failed u).2 := by
  unfold endClaim
  split
  · exact moves_finishCommand _ _ (enterForming_moves (.inr enters) active)
  · rename_i limit
    exact .single (.stamp enters active (clock ▸ BitVec.not_lt.1 limit))

theorem moves_enterClaim (c : ClaimFields) (mode : Mode) {i : SlotNo} (active : s.ctl.state = .active)
    (free : s.record i = none) (quota : ownCount s < Config.ownQuota) : Moves s (enterClaim c mode i s).2 := by
  have live : s.ctl.state ≠ .halted := by simp [active]
  unfold enterClaim
  simp only
  split
  · exact .single ((Enters.refused.cutShort live).tableCheck _)
  · exact moves_endClaim (.entered i _ free quota mode _ _ _ _ (.inl rfl)) active rfl
  · split
    · exact moves_endClaim .refused active rfl
    · exact moves_endClaim (.entered i _ free quota mode _ _ _ _ (.inr rfl)) active rfl

theorem moves_claimBody (e : CommandEntry) (s : State) : Moves s (claimBody e s).2 := by
  unfold claimBody
  simp only
  split
  · exact .refl
  · rename_i active
    split
    · exact .refl
    · split
      · exact .refl
      · split
        · exact .refl
        · rename_i quota
          split
          · exact .refl
          · rename_i i free
            exact moves_enterClaim _ _ (not_not.1 active) (lowestFree_free free) (not_le.1 quota)

theorem moves_cancelBody (e : CommandEntry) (s : State) : Moves s (cancelBody e s).2 := by
  refine moves_onNamedSlot e fun i r c hr own => ?_
  split
  · rename_i open'
    exact moves_finishCommand _ _ (retireSlot_moves hr own (by rcases open' with h | h <;> simp [h]) _ _ _)
  · exact .refl

theorem moves_releaseBody (e : CommandEntry) (s : State) : Moves s (releaseBody e s).2 := by
  refine moves_onNamedSlot e fun i r c hr own => ?_
  split
  · rename_i held
    exact moves_finishCommand _ _ (retireSlot_moves hr own (by simp [held]) _ _ _)
  · exact .refl

theorem moves_renewBody (e : CommandEntry) (s : State) : Moves s (renewBody e s).2 := by
  unfold renewBody
  split
  · split
    · exact .refl
    · exact .single (moves_tableCheck _ s)
    · exact .refl
  · rename_i active
    refine moves_onNamedSlot e fun i r c hr own => ?_
    split
    · rename_i held
      exact .single (moves_writeRecord hr (.renewed _ (not_not.1 active) own held))
    · exact .refl

theorem moves_resyncBody (e : CommandEntry) (s : State) : Moves s (resyncBody e s).2 := by
  unfold resyncBody
  split
  · exact .refl
  · rename_i active
    exact moves_finishCommand _ _ (enterForming_moves (.inl rfl) (not_not.1 active))

theorem leaveRing_moves (active : s.ctl.state = .active) : (leaveRing s).Ends (Moves s) (Partial s) := by
  have base : Partial s (leavingUnits s) :=
    (Partial.refl (by simp [active])).of_parts (by simp [leavingUnits]) rfl rfl rfl rfl rfl rfl rfl rfl rfl
  refine (passOver_worksOn isOpenOwn respects_leaveRecord (leavingUnits s)).andThen ?done fun _ h => base.work h
  intro v table
  have hv : v = { leavingUnits s with table := v.table } := table.1
  have marked : Moves s (markStateNow .leaving none v) :=
    .tail (.single (.left active table)) (.aside (aside_markStateNow ..))
  simp only
  split
  · have leaving : (markStateNow .leaving none v).ctl.state = .leaving := by
      rw [markStateNow_ctl_state, hv]; rfl
    have short : Partial s (markStateNow .leaving none v) :=
      (base.work (table.workedOn respects_leaveRecord)).of_parts (by rw [leaving]; simp) rfl rfl rfl rfl rfl rfl rfl rfl rfl
    refine (enterDetached_ends .clean _).mono ?_ fun t h => (short.detachedUnits .clean).work h
    rintro t ⟨x, table', rfl⟩
    exact .tail (.tail marked (.detached .clean leaving table')) (.aside (aside_markStateNow ..))
  · exact marked

theorem moves_leaveBody (e : CommandEntry) (s : State) : Moves s (leaveBody e s).2 := by
  unfold leaveBody
  split
  · exact .refl
  · rename_i active
    exact moves_finishCommand _ _ (leaveRing_moves (not_not.1 active))

/-! ### Drains -/

/-- A record written and, if it then holds neither mark, freed. -/
theorem moves_writeOrFree {i : SlotNo} {r q : Record} (hr : s.record i = some r)
    (turn : (q.state = .retired → q.due.isSome ∨ q.notice.isSome) → Turn s.ctl.state r q) :
    Move s (freeIfDone i (writeRecord i q s)) := by
  refine .turn rfl ((soundKept_writeRecord i q s).trans (soundKept_freeIfDone i _)) fun j x hx => ?_
  rw [freeIfDone_record, record_writeRecord] at hx
  split at hx
  · rename_i hij
    obtain ⟨rfl, kept⟩ := eq_of_keepUnlessDone hx
    refine ⟨r, hij ▸ hr, turn fun hs => ?_⟩
    simp only [hs, true_and, not_and_or, ← ne_eq, Option.ne_none_iff_isSome] at kept
    exact kept
  · exact ⟨x, hx, .same⟩

theorem moves_drainRecord (i : SlotNo) (s : State) : HostMoves s (drainRecord i s) := by
  unfold drainRecord
  split
  · exact hostMoves_of_moves (.single (moves_tableCheck i s))
  · split
    · exact hostMoves_of_moves .refl
    · rename_i r hr
      split
      · exact hostMoves_of_moves .refl
      · refine ⟨_, _, _, .single (moves_writeOrFree (r := r) hr fun kept => .drained fun hs => ?_), rfl⟩
        simpa using kept hs

theorem moves_recordNoticeDrain (h : execRecordNoticeDrain s = .next t) : HostMoves s t := by
  cases h
  split
  · exact moves_drainRecord _ s
  · exact hostMoves_of_moves .refl

theorem moves_stationNoticeDrain (h : execStationNoticeDrain s = .next t) : HostMoves s t := by
  cases h
  unfold drainStation
  split
  · split
    · exact ⟨_, _, _, .single (.aside (t := { s with ctl := { s.ctl with stateMark := none } }) ⟨rfl, BitVec.le_refl _, id⟩), rfl⟩
    · exact ⟨_, _, _, .single (.aside (t := { s with ctl := { s.ctl with faultMark := none } }) ⟨rfl, BitVec.le_refl _, id⟩), rfl⟩
    · exact hostMoves_of_moves .refl
  · exact hostMoves_of_moves .refl

/-! ### Timers -/

theorem Rewritten.moves {f : SlotNo → Record → Record} (h : Rewritten (fun i r => some (f i r)) s t)
    (turn : ∀ i r, Turn s.ctl.state r (f i r)) : Move s t := by
  refine .turn h.1 h.2.1 fun i q hq => ?_
  rw [h.2.2] at hq
  obtain ⟨r, hr, hq⟩ := Option.bind_eq_some_iff.1 hq
  cases hq
  exact ⟨r, hr, turn i r⟩

theorem respects_tickOwn (warning : Word16) : Respects fun _ r => some (tickOwn warning r) :=
  respects_some (fun _ => tickOwn_kind _) fun _ _ h => h.tickOwn _

theorem respects_tickShadow : Respects fun _ r => some (tickShadow r) :=
  respects_some (fun _ => tickShadow_kind) fun _ _ h => h.tickShadow

theorem tickTable_moves (live : s.ctl.state ≠ .halted) : (tickTable s).Ends (Moves s) (Partial s) := by
  have base : Partial s s := .refl live
  refine (passOver_worksOn _ (respects_tickOwn s.ctl.config.warning) s).andThen ?own fun _ h => base.work h
  intro t own
  have first : Move s t := own.moves fun _ _ => .tickedOwn _
  split
  · refine (passOver_worksOn _ respects_tickShadow t).mono ?shadows
      fun _ h => base.work ((own.workedOn (respects_tickOwn _)).trans h)
    intro u shadows
    exact .tail (.single first) (shadows.moves fun _ _ => .tickedShadow)
  · exact .single first

theorem not_halted_of_inRing (h : inRing s.ctl.state = true) : s.ctl.state ≠ .halted := by
  intro e
  rw [e] at h
  cases h

theorem moves_tickRing (ring : inRing s.ctl.state = true) :
    Moves s ((tickTable s).andThen fun t => .done (tickUnits t)).settle :=
  ((tickTable_moves (not_halted_of_inRing ring)).andThen (k := fun t => .done (tickUnits t))
    (fun _ h => h.tail .unitsTicked) fun _ h => h).moves

theorem moves_tickStation (s : State) : Moves s (tickStation s) := by
  have zero : Move s { s with ctl := { s.ctl with tickCounter := 0 } } :=
    .aside ⟨rfl, BitVec.le_refl _, fun _ => Nat.zero_lt_succ _⟩
  unfold tickStation
  simp only
  split
  · rename_i ring
    exact .head zero (moves_tickRing ring)
  · exact .single zero

theorem moves_refclkPeriod (s : State) : Moves s (refclkPeriod s) := by
  unfold refclkPeriod
  split
  · exact .refl
  · split
    · rename_i bound
      exact .single (.aside ⟨rfl, BitVec.le_refl _, fun _ => bound⟩)
    · exact moves_tickStation s

theorem moves_expireSlot {i : SlotNo} {due : Record → Bool} {act : Record → State → Reading}
    (h : ∀ r, s.record i = some r → due r = true → (act r s).Ends (Moves s) (Partial s)) :
    Moves s (expireSlot i due act s) := by
  unfold expireSlot
  split
  · exact .refl
  · rename_i r hr
    split
    · split
      · exact .single (moves_tableCheck i s)
      · exact (h r hr ‹_›).moves
    · exact .refl

/-- A ballot loss of a claim whose ballot timer was running (R45); at a return the timer has been stopped. -/
theorem ballotLoss_moves {i : SlotNo} {r : Record} (hr : s.record i = some r) (own : r.kind = .own)
    (pending : r.state = .pending) (timed : r.mainTimer.isSome) : (ballotLoss i r s).Ends (Moves s) (Partial s) := by
  unfold ballotLoss
  split
  · rename_i bound
    exact .single (moves_writeRecord hr (.reissued _ own pending timed bound))
  · exact retireSlot_moves hr own (by simp [pending]) _ _ _

theorem moves_ballotTimerExpiry {i : SlotNo} (h : execBallotTimerExpiry i s = .next t) : Moves s t := by
  cases h
  refine moves_expireSlot fun r hr due => ?_
  simp only [Bool.and_eq_true, beq_iff_eq] at due
  obtain ⟨⟨own, pending⟩, timer⟩ := due
  exact ballotLoss_moves hr own pending (by simp [timer])

theorem moves_waitLimitExpiry {i : SlotNo} (h : execWaitLimitExpiry i s = .next t) : Moves s t := by
  cases h
  refine moves_expireSlot fun r hr due => ?_
  simp only [Bool.and_eq_true, Bool.or_eq_true, beq_iff_eq] at due
  obtain ⟨⟨own, state⟩, -⟩ := due
  exact retireSlot_moves hr own (by rcases state with h | h <;> simp [h]) _ _ _

theorem moves_termExpiry {i : SlotNo} (h : execTermExpiry i s = .next t) : Moves s t := by
  cases h
  refine moves_expireSlot fun r hr due => ?_
  simp only [Bool.and_eq_true, beq_iff_eq] at due
  obtain ⟨⟨own, state⟩, -⟩ := due
  exact retireSlot_moves hr own (by simp [state]) _ _ _

theorem moves_shadowTimerExpiry {i : SlotNo} (h : execShadowTimerExpiry i s = .next t) : Moves s t := by
  cases h
  refine moves_expireSlot fun r hr due => ?_
  simp only [Bool.and_eq_true, Bool.or_eq_true, beq_iff_eq] at due
  obtain ⟨⟨shadow, state⟩, -⟩ := due
  exact retiredShadow_moves hr shadow (by rcases state with h | h <;> simp [h]) _ _ _

theorem moves_fenceExpiry (h : execFenceExpiry s = .next t) : Moves s t := by
  cases h
  split
  · refine .head (.shadowUnit (.ended _ fun owed => ?_)) (wake_moves wholeSpace _).moves
    simp only [Bool.or_eq_true, Bool.and_eq_true] at owed
    exact owed.imp id And.right
  · exact .refl

/-- The epoch that a census retry raises is the greater of the best key's and the station's (R143). -/
theorem retryCensus_eq (s : State) : ∃ top : Word32, s.census.epoch ≤ top ∧
    (∀ k, s.census.bestKey = some k → k.epoch ≤ top) ∧
    retryCensus s = if top = Config.maxWord32 then enterHalted .epochExhausted s else proposeEpoch (top + 1) s := by
  refine ⟨_, ?_, fun k hk => ?_, rfl⟩
  · split
    · exact BitVec.le_refl _
    · exact BitVec.not_lt.1 ‹_›
  · simp only [hk, Option.map_some, Option.getD_some]
    split
    · exact BitVec.le_of_lt ‹_›
    · exact BitVec.le_refl _

theorem moves_censusRetryExpiry (h : execCensusRetryExpiry s = .next t) : Moves s t := by
  cases h
  split
  · rename_i expired
    obtain ⟨-, working⟩ := expired
    have live : s.ctl.state ≠ .halted := by intro e; simp [e, formingOrIsolated] at working
    obtain ⟨top, epoch, best, heq⟩ := retryCensus_eq s
    rw [heq]
    split
    · exact .single (.halt _ (.refl live))
    · exact .single (.proposed top working ‹_› epoch best)
  · exact .refl

theorem moves_formationTimerExpiry (h : execFormationTimerExpiry s = .next t) : Moves s t := by
  cases h
  split
  · rename_i expired
    exact (enterIsolated_moves expired.2).moves
  · exact .refl

theorem moves_leaveTimerExpiry (h : execLeaveTimerExpiry s = .next t) : Moves s t := by
  cases h
  split
  · rename_i expired
    exact (enterDetached_moves expired.2 _).moves
  · exact .refl

theorem moves_drainCompletion (h : execDrainCompletion s = .next t) : Moves s t := by
  cases h
  split
  · rename_i drained
    exact (enterDetached_moves drained.1 _).moves
  · exact .refl

/-! ### Transactions -/

theorem moves_codeByteEffect (k : Transaction) (s : State) : Moves s (codeByteEffect k s) := by
  unfold codeByteEffect
  split
  · unfold checkWindowRead
    split
    · split
      · exact .single (moves_tableCheck _ s)
      · exact .refl
    · exact .refl
  · exact .refl

theorem moves_spiCode (k : Transaction) (b : Byte) (s : State) : HostMoves s (spiCode k b s) := by
  unfold spiCode
  split
  · exact hostMoves_of_moves .refl
  · split
    · split
      · exact ⟨_, _, _, moves_codeByteEffect k _, rfl⟩
      · exact hostMoves_host _ s
    · exact hostMoves_of_moves .refl

/-- A complete transaction beside STATION_RESET changes the host port alone. -/
theorem closeEffect_only {k : Transaction} (hk : k ≠ .stationReset) (shown : Bool) (data : List Byte) (s : State) :
    closeEffect k shown data s = { s with host := (closeEffect k shown data s).host } := by
  cases k with
  | stationReset => exact absurd rfl hk
  | writeCommand => rfl
  | readResult => rfl
  | readStatus => rfl
  | writeIndex => rfl
  | readWindow => rfl

theorem moves_spiFall (s : State) : HostMoves s (spiFall s) := by
  unfold spiFall
  split
  · exact hostMoves_host _ s
  · exact hostMoves_of_moves .refl

theorem moves_transact {k : Transaction} (hk : k ≠ .stationReset) (e : SpiEvent) (s : State) :
    HostMoves s (transact k e s) := by
  cases e with
  | fall => exact moves_spiFall s
  | code b => exact moves_spiCode k b s
  | rise data =>
    simp only [transact, spiRise]
    split
    · exact hostMoves_of_moves .refl
    · split
      · exact hostMoves_host _ s
      · split
        · rename_i same
          subst same
          split
          · rw [closeEffect_only hk]
            exact hostMoves_host _ s
          · exact hostMoves_host _ s
        · exact hostMoves_of_moves .refl

end

end Sys2Proof.Machine
end

section
/-! PROOF. The rows of the links as runs of moves: a port that leaves UP, a lock gained or lost, the credit symbols, and the
arrival of a frame. -/

namespace Sys2Proof.Machine

section
variable {s t u v w : State}

/-! ### A port that leaves UP -/

theorem formingUnits_sendRebase (scan : v.scan = none) :
    formingUnits (sendRebase v) = sendRebase (formingUnits v) := by
  cases hx : v.fh.inSend <;>
    simp [formingUnits, abandonScan, flushOrigination, sendRebase, scan, hx, leaveQueue]
  split <;> simp

theorem Rewritten.sendRebase {f : SlotNo → Record → Option Record} {st : StationState}
    (h : Rewritten f (withState st w) v) : Rewritten f (withState st (sendRebase w)) (sendRebase v) := by
  refine ⟨?_, h.2.1, h.2.2⟩
  have hv : v = { withState st w with table := v.table } := h.1
  rw [hv]
  rfl

theorem EpochFit.of_sendRebase (h : EpochFit (sendRebase w)) : EpochFit w :=
  ⟨h.unborn, h.forming, h.adopted, h.roster, by simpa using h.queued⟩

theorem Partial.sendRebase (h : Partial w u) : Partial (sendRebase w) u :=
  ⟨h.live, h.host, h.resetn, h.pending, h.config, h.configured, h.ticks, h.bestKey,
    h.epoch.imp id (And.imp id fun best he => best he.of_sendRebase), h.fields, h.quota⟩

/-- The REBASE that R105 sends last may be taken first: what the station does between leaves it alone, or cuts it off. -/
theorem rebasedAfterLoss_moves (wait : w.down.link = .creditWait) (scan : w.scan = none) {t : State}
    (ht : t = (stationAfterPortLoss w).settle) :
    Moves (sendRebase w) (if t.down.link = .creditWait then sendRebase t else t) := by
  subst ht
  have cut : ∀ i u, Partial w u → Moves (Machine.sendRebase w)
      (if (tableCheck i u).down.link = .creditWait then Machine.sendRebase (tableCheck i u) else tableCheck i u) := by
    intro i u hu
    have off : (tableCheck i u).down.link ≠ .creditWait := by
      rw [tableCheck, if_neg hu.live]; exact LinkState.noConfusion
    rw [if_neg off]
    exact .single (hu.sendRebase.tableCheck i)
  unfold stationAfterPortLoss
  split
  · rename_i active
    have base : Partial w (withState .forming w) := (Partial.refl (by simp [active])).withState (by simp)
    refine (enterForming_ends w).settle (p := fun t => Moves (Machine.sendRebase w)
      (if t.down.link = .creditWait then Machine.sendRebase t else t)) ?_ fun i u hu => cut i u (base.work hu)
    rintro t ⟨v, table, rfl⟩
    have hv : v = { withState .forming w with table := v.table } := table.1
    have units : Partial w (formingUnits v) := (base.work (table.workedOn respects_clearForming)).formingUnits
    have scanless : v.scan = none := by rw [hv]; exact scan
    split
    · have halted : Partial w (markStateNow .forming none (formingUnits v)) :=
        units.of_parts units.live rfl rfl rfl rfl rfl rfl rfl rfl rfl
      rw [if_neg (fun e => nomatch e)]
      exact .single (.halt _ halted.sendRebase)
    · rename_i room
      have link : (markStateNow .forming none (proposeEpoch (v.census.epoch + 1) (formingUnits v))).down.link =
          .creditWait := by
        simp only [markStateNow_down, proposeEpoch_down, formingUnits, flushOrigination_down, abandonScan, scanless]
        rw [hv]
        exact wait
      rw [if_pos link]
      have room' : (Machine.sendRebase w).census.epoch ≠ Config.maxWord32 := by
        rw [hv] at room; exact room
      have formed := Move.formed (s := Machine.sendRebase w) (.inl rfl) active room' table.sendRebase
      refine .tail (.single formed) (.aside ?_)
      rw [formingUnits_sendRebase scanless]
      exact ⟨rfl, BitVec.le_refl _, id⟩
  · rename_i leaving
    have base : Partial w (detachedUnits .interrupted w) := (Partial.refl (by simp [leaving])).detachedUnits _
    refine (enterDetached_ends .interrupted w).settle (p := fun t => Moves (Machine.sendRebase w)
      (if t.down.link = .creditWait then Machine.sendRebase t else t)) ?_ fun i u hu => cut i u (base.work hu)
    rintro t ⟨v, table, rfl⟩
    have hv : v = { detachedUnits .interrupted w with table := v.table } := table.1
    have off : v.down.link = .off := by rw [hv]; rfl
    have stays : (markStateNow .detached (some .interrupted) (stopCensus (clearShadowUnit v))).down.link ≠
        .creditWait := by
      simp only [markStateNow_down, stopCensus_down, clearShadowUnit_down, off]; simp
    rw [if_neg stays]
    have detached := Move.detached (s := Machine.sendRebase w) .interrupted
      (v := { v with down := (detachedUnits .interrupted (Machine.sendRebase w)).down }) leaving
      ⟨by rw [hv]; rfl, table.2.1, table.2.2⟩
    refine .tail (.single detached) (.aside ⟨?_, BitVec.le_refl _, id⟩)
    rw [hv]
    rfl
  · rw [Reading.settle, if_pos wait]

/-- The upstream port leaves UP for TRAINING as `u` (R105, R109). -/
theorem moves_upstreamLeftUp {u : UpstreamPort} (up : s.up.link = .up) (link : u.link = .training)
    (owed : u.advertisementOwed = false)
    (far : (s.up.farLock = true → s.up.receiveLock = true) → u.farLock = true → u.receiveLock = true)
    (run : s.up.badRun ≤ Config.badFrameLimit → u.badRun ≤ Config.badFrameLimit) :
    Moves s (upstreamLeftUp { s with up := u }) := by
  have lost : Move s (lostUp u s) := .upLost up link owed far run
  unfold upstreamLeftUp
  unfold lostUp at lost
  simp only at lost ⊢
  rw [flushTransit_down]
  by_cases hd : s.down.link = .up
  · rw [if_pos hd] at lost ⊢
    exact .head lost (rebasedAfterLoss_moves rfl rfl rfl)
  · rw [if_neg hd] at lost ⊢
    exact .head lost (stationAfterPortLoss_moves _).moves

/-- The downstream port leaves UP for TRAINING as `d` (R101, R109). -/
theorem moves_downstreamLeftUp {d : DownstreamPort} (up : s.down.link = .up) (link : d.link = .training)
    (credit : d.credit = 0) (far : d.farLock = true → d.receiveLock = true) :
    Moves s (downstreamLeftUp (cutDown d s)) :=
  .head (.downLost up link credit far) (stationAfterPortLoss_moves _).moves

/-! ### Locks -/

theorem moves_receiveLockGained {port : Port} {groups : List LaneGroup}
    (h : execReceiveLockGained port groups s = .next t) : Moves s t := by
  cases h
  split
  · cases port with
    | upstream =>
      simp only [lockUpstream]
      split
      · exact .single (.upPort (.locked ‹_›))
      · exact .refl
    | downstream =>
      simp only [lockDownstream]
      split
      · exact .single (.downPort (.locked ‹_›))
      · exact .refl
  · exact .refl

/-- A trained downstream port is the port cut off, beside the record of what the lane has carried. -/
theorem trainDownstream_eq (d : DownstreamPort) (s : State) :
    trainDownstream { s with down := d } =
      cutDown { d with
        link := .training, credit := 0
        sent := d.sent ++ (s.fh.inSend.map fun x => .cutOff x.bytes).toList } s := rfl

theorem moves_unlockUpstream (s : State) : Moves s (unlockUpstream s) := by
  unfold unlockUpstream
  simp only
  split
  · exact .refl
  · exact .single (.upPort (.unlocked ‹_›))
  · exact .single (.upPort (.retrained ‹_›))
  · exact moves_upstreamLeftUp ‹_› rfl rfl (fun _ => nofun) id

theorem moves_unlockDownstream (s : State) : Moves s (unlockDownstream s) := by
  unfold unlockDownstream
  simp only
  split
  · exact .refl
  · exact .single (.downPort (.unlocked ‹_›))
  · rw [trainDownstream_eq]
    exact .single (.downTrained ‹_› rfl rfl nofun)
  · rw [trainDownstream_eq]
    exact moves_downstreamLeftUp ‹_› rfl rfl nofun

theorem moves_receiveLockLost {port : Port} {cause : LockLoss} (h : execReceiveLockLost port cause s = .next t) :
    Moves s t := by
  cases h
  split
  · cases port with
    | upstream => exact moves_unlockUpstream s
    | downstream => exact moves_unlockDownstream s
  · exact .refl

theorem moves_farLockSet {port : Port} {inFrame : Bool} {g : LaneGroup}
    (h : execFarLockSet port inFrame g s = .next t) : Moves s t := by
  cases h
  split
  · cases port with
    | upstream =>
      simp only
      split
      · rename_i locked
        exact .single (.upPort (.farSet locked.1))
      · exact .refl
    | downstream =>
      simp only
      split
      · rename_i locked
        exact .single (.downPort (.farSet locked.1))
      · exact .refl
  · exact .refl

theorem moves_clearFarUpstream (s : State) : Moves s (clearFarUpstream s) := by
  unfold clearFarUpstream
  simp only
  split
  · split
    · exact .refl
    · exact moves_upstreamLeftUp ‹_› rfl rfl (fun _ => nofun) id
    · exact .single (.upPort (.farCleared ‹_›))
  · exact .refl

theorem moves_clearFarDownstream (s : State) : Moves s (clearFarDownstream s) := by
  unfold clearFarDownstream
  simp only
  split
  · split
    · exact .refl
    · rw [trainDownstream_eq]
      exact moves_downstreamLeftUp ‹_› rfl rfl nofun
    · exact .single (.downPort (.farCleared ‹_›))
  · exact .refl

theorem moves_farLockClear {port : Port} (h : execFarLockClear port s = .next t) : Moves s t := by
  cases h
  cases port with
  | upstream => exact moves_clearFarUpstream s
  | downstream => exact moves_clearFarDownstream s

/-! ### Symbols -/

theorem move_seeNormalUp (s : State) : Move s (seeNormalUp s) := .upPort .farSeen
theorem move_seeNormalDown (s : State) : Move s (seeNormalDown s) := .downPort .farSeen

theorem moves_token (h : execToken s = .next t) : Moves s t := by
  cases h
  split
  · rename_i room
    exact .head (move_seeNormalDown s) (.single (.downPort (.credited room.1 room.2)))
  · exact .single (move_seeNormalDown s)

theorem moves_advertise (h : execAdvertise s = .next t) : Moves s t := by
  cases h
  split
  · exact .single (.downPort (.opened ‹_›))
  · exact moves_unlockDownstream s
  · exact .refl

theorem moves_rebase (h : execRebase s = .next t) : Moves s t := by
  cases h
  split
  · rename_i up
    have seen : ({ seeNormalUp s with up := { (seeNormalUp s).up with advertisementOwed := true } } : State) =
        { s with up := { s.up with farLock := true, advertisementOwed := true } } := by
      simp [seeNormalUp, readsSymbols, up]
    rw [seen]
    exact .single (.upPort (.rebased up))
  · exact .single (move_seeNormalUp s)

theorem aside_upSent (sent : List ReturnSymbol) (s : State) : Aside s { s with up := { s.up with sent := sent } } :=
  ⟨rfl, BitVec.le_refl _, id⟩

theorem moves_advertiseSend (h : execAdvertiseSend s = .next t) : Moves s t := by
  cases h
  split
  · rename_i owes
    obtain ⟨-, far, -, reads⟩ := owes
    simp only
    split
    · rename_i wait
      exact .head (.upPort (.opened wait far)) (.single (.aside (aside_upSent _ _)))
    · rename_i wait
      have up : s.up.link = .up := by
        cases hl : s.up.link <;> simp_all [readsSymbols]
      exact .head (.upPort (.advertised up)) (.single (.aside (aside_upSent _ _)))
  · exact .refl

/-! ### Arrivals -/

theorem moves_badFrame (up : s.up.link = .up) : Moves s (badFrame s) := by
  unfold badFrame
  split
  · rename_i bound
    exact .head (.upPort (.rejected up _ (Nat.le_of_lt bound))) (.single (.aside ⟨rfl, BitVec.le_refl _, id⟩))
  · exact moves_upstreamLeftUp up rfl rfl id fun _ => le_refl _

theorem moves_frameArrival {bytes : List Byte} (h : execFrameArrival bytes s = .next t) : Moves s t := by
  cases h
  unfold arrive
  split
  · exact .single (move_seeNormalUp s)
  · rename_i up
    split
    · rename_i room
      split
      · exact .head (move_seeNormalUp s) (.single (.arrived _ up room))
      · exact .head (move_seeNormalUp s) (moves_badFrame (s := seeNormalUp s) up)
    · exact .refl
  · exact .refl

end

end Sys2Proof.Machine
end

section
/-! PROOF. The rows of the frame handler beside FRAME_TAKING as runs of moves: the arbiter's choice, due service, the visits
of a scan, and departures. -/

namespace Sys2Proof.Machine

section
variable {s t u v w : State}

/-! ### Lookups -/

theorem lookup_eq_found {p : Record → Bool} {i : SlotNo} {r : Record} (h : lookup p s = .found i r) :
    s.record i = some r ∧ p r = true ∧ (s.table.get i).damaged = false := by
  unfold lookup at h
  split at h
  · cases h
  · rename_i j hj
    have holds := ((Table.find_eq_some ..).1 hj).1
    split at h
    · cases h
    · rename_i sound content
      cases h
      simp only [Slot.holds, content, Option.any_some, sound, Bool.false_or] at holds
      exact ⟨content, holds, sound⟩
    · cases h

/-- A scan that is clear has met no record in the way, and no fence. -/
theorem localScan_eq_clear {own : SlotNo} {stamp : Stamp} {range : Range} {mode : Mode}
    (h : localScan own stamp range mode s = .clear) :
    s.fenceActive = false ∧
      ∀ j q, j ≠ own → s.record j = some q → standsInTheWay stamp range mode q = false := by
  unfold localScan at h
  split at h
  · cases h
  · rename_i fence
    split at h
    · cases h
    · split at h
      · cases h
      · rename_i none'
        refine ⟨by simpa using fence, fun j q hj hq => ?_⟩
        rw [Option.not_isSome_iff_eq_none, Table.find_eq_none] at none'
        have hq : (s.table.get j).content = some q := hq
        simpa [hj, Slot.holds, hq] using none' j

/-! ### The arbiter -/

theorem moves_arbiterChoice (h : execArbiterChoice s = .next t) : Moves s t := by
  cases h
  have transit : ∀ f position, canSend s = true → position ≤ Config.arbiterLimit → transitCandidate s = some f →
      Moves s (beginSend f .transit position s) := fun f position can bound candidate =>
    .single (.sendBegun f .transit position can bound (transitCandidate_eq_some_iff.1 candidate).1)
  have own : ∀ g, canSend s = true → originationCandidate s = some g → Moves s (beginSend g .origination 0 s) :=
    fun g can candidate =>
      .single (.sendBegun g .origination 0 can (Nat.zero_le _) (originationCandidate_eq_some_iff.1 candidate).1)
  split
  · rename_i can
    split
    · exact .refl
    · exact transit _ 0 can (Nat.zero_le _) ‹_›
    · exact own _ can ‹_›
    · split
      · exact transit _ _ can ‹_› ‹_›
      · exact own _ can ‹_›
  · exact .refl

/-! ### Due service -/

/-- What a due presented for service says of the station (R124, R125). -/
theorem nextDue_eq_some {c : DueChoice} (h : nextDue s = some c) :
    match c with
    | .census => s.census.censusDue = true ∧ formingOrIsolated s.ctl.state = true ∧ bothUp s = true
    | .roster d => s.census.rosterDue = some d ∧ formingOrIsolated s.ctl.state = true
    | .fenceEnd => dueAllowed s.ctl.state = true ∧ s.shadow.fenceEndDue = true
    | .record _ => dueAllowed s.ctl.state = true := by
  unfold nextDue at h
  split at h
  · cases h
    assumption
  · split at h
    · cases h
      exact ⟨‹_›, ‹_›⟩
    · split at h
      · rename_i allowed
        split at h
        · cases h
          exact ⟨allowed, ‹_›⟩
        · obtain ⟨i, -, rfl⟩ := Option.map_eq_some_iff.1 h
          exact allowed
      · cases h

theorem moves_serveRecord {i : SlotNo} (room : s.fh.origination.length < Config.originationDepth)
    (allowed : dueAllowed s.ctl.state = true) : (serveRecord i s).Ends (Moves s) (Partial s) := by
  have short : Partial s s := .refl (not_halted_of_dueAllowed allowed)
  unfold serveRecord
  split
  · exact short
  · split
    · exact .refl
    · rename_i r hr
      simp only
      split
      · exact .refl
      · rename_i due
        split
        · exact short
        · exact .single (moves_writeRecord hr (.blocked due))
        · rename_i clear
          exact .single (.ballotQueued i r room allowed hr due (localScan_eq_clear clear).2)
      · rename_i c due
        exact .head (moves_writeRecord hr (.served (by simp [due]) fun _ => .inr ⟨c, due⟩))
          (.single (.queued _ room allowed rfl))
      · rename_i reason due
        refine .head (.queued (releaseFrame reason r s) room allowed rfl) (.single (moves_writeOrFree (r := r) hr fun kept => ?_))
        exact .served (by simp [due]) fun retired => .inl (by simpa using kept retired)

theorem moves_serveRoster {d : RosterDue} (room : s.fh.origination.length < Config.originationDepth)
    (due : s.census.rosterDue = some d) (working : formingOrIsolated s.ctl.state = true) :
    Moves s (serveRoster d s).settle :=
  (adopt_moves working (fun fit => ⟨_, (fit.roster d due).2⟩) (.inr ⟨room, rfl⟩)).moves

theorem moves_dueService (h : execDueService s = .next t) : Moves s t := by
  cases h
  split
  · rename_i room
    split
    · exact .refl
    · rename_i choice
      obtain ⟨-, working, -⟩ := nextDue_eq_some choice
      exact .single (.censusQueued (censusFrame s) room working rfl)
    · rename_i d choice
      obtain ⟨due, working⟩ := nextDue_eq_some choice
      exact moves_serveRoster room due working
    · rename_i choice
      obtain ⟨allowed, -⟩ := nextDue_eq_some choice
      exact .head (.queued (fenceEndFrame s) room allowed rfl) (.single (.shadowUnit .served))
    · rename_i i choice
      exact (moves_serveRecord room (nextDue_eq_some choice)).moves
  · exact .refl

/-! ### The visits of a scan -/

/-- The visited record is marked when it objects (R68). -/
theorem moves_markObjector (i : SlotNo) (objects : Bool) (s : State) :
    Moves s (match (s.table.get i).content with
      | some r => if objects then writeRecord i { r with objected := true } s else s
      | none => s) := by
  split
  · rename_i r hr
    split
    · exact .single (moves_writeRecord hr .objected)
    · exact .refl
  · exact .refl

theorem moves_visitSlot (f : Frame) (b : Ballot) (i : SlotNo) (objection : Bool) (running : s.scan.isSome) :
    Moves s (visitSlot f b i objection s) := by
  have marked := moves_markObjector i ((s.table.get i).holds (objectsTo f b)) s
  have scan : (match (s.table.get i).content with
      | some r => if (s.table.get i).holds (objectsTo f b) then writeRecord i { r with objected := true } s else s
      | none => s).scan = s.scan := by
    split
    · split <;> rfl
    · rfl
  unfold visitSlot
  simp only
  split
  · rename_i bound
    refine .tail marked (.scanMoved _ ?_ bound)
    rw [scan]
    exact running
  · refine .tail marked (.scanEnded _ ?_)
    rw [scan]
    exact running

theorem moves_scanVisit (h : execScanVisit s = .next t) : Moves s t := by
  cases h
  split
  · rename_i sc f running hand
    split
    · split
      · simp only
        split
        · exact .single (moves_tableCheck _ s)
        · exact moves_visitSlot _ _ _ _ (by simp [running])
      · exact .refl
    · exact .refl
  · exact .refl

/-! ### Departures -/

/-- A departure that starts the ballot timer of the record its BALLOT was built from (R39). -/
structure DepartsBallot (s t : State) (x : InSend) (b : Ballot) (i : SlotNo) (r : Record) : Prop where
  sending : s.fh.inSend = some x
  source : x.source = .origination
  body : ballotOf x.frame = some b
  held : s.record i = some r
  own : r.kind = .own
  pending : r.state = .pending
  epoch : r.identity.epoch = x.frame.epoch
  count : r.identity.count = b.count
  issue : r.issue = b.issue
  untimed : r.mainTimer = none
  out : t = writeRecord i { r with mainTimer := some (s.ctl.config.ballotLimit.setWidth 16) }
    (countDeparture (departed x s))

@[simp] theorem departed_table (x : InSend) (s : State) : (departed x s).table = s.table := by
  unfold departed chargeCredit leaveAtDeparture
  split
  · rfl
  · split <;> rfl

@[simp] theorem departed_record (x : InSend) (s : State) : (departed x s).record = s.record := by
  funext i
  simp only [State.record, departed_table]

@[simp] theorem departed_ctl (x : InSend) (s : State) : (departed x s).ctl = s.ctl := by
  unfold departed chargeCredit leaveAtDeparture
  split
  · rfl
  · split <;> rfl

@[simp] theorem departed_census (x : InSend) (s : State) : (departed x s).census = s.census := by
  unfold departed chargeCredit leaveAtDeparture
  split
  · rfl
  · split <;> rfl

@[simp] theorem departed_clock (x : InSend) (s : State) : (departed x s).clock = s.clock := by
  unfold departed chargeCredit leaveAtDeparture
  split
  · rfl
  · split <;> rfl

@[simp] theorem departed_shadow (x : InSend) (s : State) : (departed x s).shadow = s.shadow := by
  unfold departed chargeCredit leaveAtDeparture
  split
  · rfl
  · split <;> rfl

theorem aside_countDeparture (s : State) : Aside s (countDeparture s) := ⟨rfl, BitVec.le_refl _, id⟩

theorem moves_startRetryTimer (f : Frame) (s : State) : Moves s (startRetryTimer f s) := by
  unfold startRetryTimer
  split
  · rename_i runs
    exact .single (.retryTimed _ runs.2.1)
  · exact .refl

theorem startBallotTimer_cases (f : Frame) (b : Ballot) (u : State) :
    (startBallotTimer f b u).settle = u ∨ (∃ i, (startBallotTimer f b u).settle = tableCheck i u) ∨
      ∃ i r, u.record i = some r ∧ matchesDeparture f b r = true ∧ (startBallotTimer f b u).settle =
        writeRecord i { r with mainTimer := some (u.ctl.config.ballotLimit.setWidth 16) } u := by
  unfold startBallotTimer
  cases found : lookup (matchesDeparture f b) u with
  | absent => exact .inl rfl
  | failed i => exact .inr (.inl ⟨i, rfl⟩)
  | found i r =>
    obtain ⟨held, matched, -⟩ := lookup_eq_found found
    exact .inr (.inr ⟨i, r, held, matched, rfl⟩)

/-- A departure is a run of moves, or one move and the start of a ballot timer. -/
theorem moves_frameDeparture (h : execFrameDeparture s = .next t) :
    Moves s t ∨ ∃ x b i r, DepartsBallot s t x b i r := by
  cases h
  cases sending : s.fh.inSend with
  | none => exact .inl .refl
  | some x =>
    have away : Move s (departed x s) := .departed sending
    have counted : Moves s (countDeparture (departed x s)) := .tail (.single away) (.aside (aside_countDeparture _))
    cases source : x.source with
    | transit =>
      simp only [source]
      exact .inl (.single away)
    | origination =>
      simp only [source]
      change Moves s (departOwn x.frame (departed x s)).settle ∨
        ∃ y b i r, DepartsBallot s (departOwn x.frame (departed x s)).settle y b i r
      cases body : x.frame.body with
      | census members =>
        simp only [departOwn, body]
        exact .inl (.head away (moves_startRetryTimer _ _))
      | roster members =>
        simp only [departOwn, body]
        exact .inl (.single away)
      | announce a =>
        simp only [departOwn, body]
        exact .inl counted
      | release a =>
        simp only [departOwn, body]
        exact .inl counted
      | ballot b =>
        simp only [departOwn, body]
        obtain h | ⟨i, h⟩ | ⟨i, r, held, matched, h⟩ := startBallotTimer_cases x.frame b (countDeparture (departed x s))
        · exact .inl (by rw [h]; exact counted)
        · exact .inl (by rw [h]; exact .tail counted (moves_tableCheck _ _))
        · have held : s.record i = some r := departed_record x s ▸ held
          have ctl : (countDeparture (departed x s)).ctl = s.ctl := departed_ctl x s
          simp only [matchesDeparture, Bool.and_eq_true, beq_iff_eq, Option.isNone_iff_eq_none] at matched
          obtain ⟨⟨⟨⟨⟨own, pending⟩, epoch⟩, count⟩, issue⟩, untimed⟩ := matched
          exact .inr ⟨x, b, i, r, sending, source, by simp [ballotOf, body], held, own, pending, epoch, count, issue,
            untimed, ctl ▸ h⟩

end

end Sys2Proof.Machine
end

section
/-! PROOF. FRAME_TAKING as a run of moves. The owning block works beside the transit queue, so that the frame's way out of
hand can be taken first: the frame leaves the queue or stands ready in it, and the block's own moves follow. -/

namespace Sys2Proof.Machine

section
variable {s t u v w : State} {ready later : List TransitEntry} {f : Frame}

/-! ### The frame in hand -/

theorem takeOldest_eq_some {queue queue' : List TransitEntry} (none' : ∀ e ∈ queue, e.cond ≠ .inHand)
    (h : takeOldest queue = some (f, queue')) :
    ∃ ready later, queue = ready ++ { frame := f, cond := .awaiting } :: later ∧ (∀ e ∈ ready, e.cond = .ready) ∧
      queue' = ready ++ { frame := f, cond := .inHand } :: later := by
  induction queue generalizing queue' with
  | nil => cases h
  | cons e es ih =>
    unfold takeOldest at h
    split at h
    · rename_i awaiting
      cases h
      refine ⟨[], es, ?_, by simp, rfl⟩
      rw [← awaiting]
      rfl
    · rename_i other
      obtain ⟨⟨g, queue⟩, found, same⟩ := Option.map_eq_some_iff.1 h
      obtain ⟨hg, hq⟩ := Prod.mk.inj same
      subst hg hq
      obtain ⟨ready, later, rfl, before, inHand⟩ := ih (fun x hx => none' x (by simp [hx])) found
      simp only at inHand
      subst inHand
      refine ⟨e :: ready, later, rfl, ?_, rfl⟩
      intro x hx
      obtain rfl | hx := List.mem_cons.1 hx
      · cases hc : x.cond
        · exact absurd hc other
        · exact absurd hc (none' x (by simp))
        · rfl
      · exact before x hx

theorem handFrame_eq_none (h : handFrame s = none) : ∀ e ∈ s.fh.transit, e.cond ≠ .inHand := by
  intro e he hand
  rw [handFrame, Option.map_eq_none_iff, List.find?_eq_none] at h
  exact h e he (by simp [hand])

/-- The queue of a frame in hand without it, and with the frame marked ready. -/
theorem queueWithout_hand (h : Awaits s ready f later) :
    (ready ++ { frame := f, cond := .inHand } :: later).filter (fun e => e.cond != .inHand) = ready ++ later := by
  have before : ready.filter (fun e => e.cond != .inHand) = ready :=
    List.filter_eq_self.2 fun e he => by simp [h.before e he]
  have after : later.filter (fun e => e.cond != .inHand) = later :=
    List.filter_eq_self.2 fun e he => by simpa using h.after e he
  simp [List.filter_append, before, after]

/-- A queue with no frame in hand is left as it is when the frame in hand is marked ready. -/
theorem map_ready_eq_self {queue : List TransitEntry} (none' : ∀ e ∈ queue, e.cond ≠ .inHand) (g : Frame) :
    (queue.map fun e => if e.cond = .inHand then { frame := { g with hop := g.hop + 1 }, cond := .ready } else e) =
      queue :=
  (List.map_congr_left fun e he => by simp [none' e he]).trans (List.map_id _)

theorem filter_hand_eq_self {queue : List TransitEntry} (none' : ∀ e ∈ queue, e.cond ≠ .inHand) :
    queue.filter (fun e => e.cond != .inHand) = queue :=
  List.filter_eq_self.2 fun e he => by simpa using none' e he

theorem Awaits.before_inHand (h : Awaits s ready f later) : ∀ e ∈ ready, e.cond ≠ .inHand :=
  fun e he => by simp [h.before e he]

theorem Awaits.noHand (h : Awaits s ready f later) : ∀ e ∈ ready ++ later, e.cond ≠ .inHand := by
  intro e he
  rcases List.mem_append.1 he with he | he
  · exact h.before_inHand e he
  · exact h.after e he

/-- The queue with the frame forwarded as `g` (R120). -/
def sentOn (ready : List TransitEntry) (g : Frame) (later : List TransitEntry) : List TransitEntry :=
  ready ++ { frame := { g with hop := g.hop + 1 }, cond := .ready } :: later

/-- The queue with the frame in hand (R113). -/
def handQueue (ready : List TransitEntry) (f : Frame) (later : List TransitEntry) : List TransitEntry :=
  ready ++ { frame := f, cond := .inHand } :: later

theorem dropHand_aside (h : Awaits s ready f later) (hq : v.fh.transit = handQueue ready f later) :
    Aside (withTransit (ready ++ later) v) (dropHand v) := by
  refine ⟨?_, BitVec.le_refl _, id⟩
  simp only [dropHand, hq, handQueue, queueWithout_hand h]
  rfl

theorem readyHand_eq (h : Awaits s ready f later) (g : Frame) (hq : v.fh.transit = handQueue ready f later) :
    readyHand g v = withTransit (sentOn ready g later) v := by
  simp only [readyHand, hq, handQueue, List.map_append, List.map_cons, map_ready_eq_self h.before_inHand,
    map_ready_eq_self h.after, if_true]
  rfl

/-- With no frame in hand nothing is dropped and nothing marked ready. -/
theorem dropHand_noHand (none' : ∀ e ∈ v.fh.transit, e.cond ≠ .inHand) : Aside v (dropHand v) := by
  refine ⟨?_, BitVec.le_refl _, id⟩
  simp only [dropHand, filter_hand_eq_self none']
  rfl

theorem readyHand_noHand (none' : ∀ e ∈ v.fh.transit, e.cond ≠ .inHand) (g : Frame) : readyHand g v = v := by
  simp only [readyHand, map_ready_eq_self none']

/-! ### Work beside the transit queue -/

/-- What the event has made, in a changed state. -/
def Reading.map (g : State → State) : Reading → Reading
  | .done s => .done (g s)
  | .failed i s => .failed i (g s)

theorem Reading.map_andThen (g : State → State) {k : State → Reading} (comm : ∀ s, k (g s) = (k s).map g)
    (r : Reading) : (r.map g).andThen k = (r.andThen k).map g := by
  cases r with
  | done s => exact comm s
  | failed i s => rfl

/-- The event neither reads nor writes the transit queue. -/
def IgnoresTransit (k : State → Reading) : Prop :=
  ∀ (queue : List TransitEntry) (s : State), k (withTransit queue s) = (k s).map (withTransit queue)

theorem passOver_ignoresTransit (reads : Record → Bool) (g : SlotNo → Record → Option Record) :
    IgnoresTransit (passOver reads g) := by
  intro queue s
  have same : firstBad reads (withTransit queue s).table = firstBad reads s.table := rfl
  unfold passOver
  rw [same]
  cases firstBad reads s.table <;> rfl

theorem IgnoresTransit.andThen {k k' : State → Reading} (h : IgnoresTransit k) (h' : IgnoresTransit k') :
    IgnoresTransit fun s => (k s).andThen k' := by
  intro queue s
  simp only
  rw [h queue s, Reading.map_andThen _ (h' queue)]

theorem ignoresTransit_done {g : State → State} (h : ∀ queue s, g (withTransit queue s) = withTransit queue (g s)) :
    IgnoresTransit fun s => .done (g s) :=
  fun queue s => congrArg Reading.done (h queue s)

theorem wakeOver_ignoresTransit (hit : Range → Bool) : IgnoresTransit (wakeOver hit) := by
  intro queue s
  have same : (withTransit queue s).ctl = s.ctl := rfl
  unfold wakeOver
  rw [same]
  split
  · exact passOver_ignoresTransit _ _ queue s
  · rfl

theorem processAnnounce_ignoresTransit (f : Frame) (a : Announce) : IgnoresTransit (processAnnounce f a) := by
  intro queue s
  have found : lookup (isShadowOf (announceIdentity f a)) (withTransit queue s) =
      lookup (isShadowOf (announceIdentity f a)) s := rfl
  have free : lowestFree (withTransit queue s) = lowestFree s := rfl
  unfold processAnnounce
  rw [found, free]
  split
  · rfl
  · split <;> rfl
  · split <;> rfl

theorem processRelease_ignoresTransit (x : Release) : IgnoresTransit (processRelease x) := by
  intro queue s
  have found : lookup (isShadowOf (releaseIdentity x)) (withTransit queue s) =
      lookup (isShadowOf (releaseIdentity x)) s := rfl
  unfold processRelease
  rw [found]
  split
  · exact wakeOver_ignoresTransit _ queue s
  · split
    · rfl
    · exact wakeOver_ignoresTransit _ queue s
    · split
      · exact wakeOver_ignoresTransit _ queue s
      · rename_i i r _ _
        exact wakeOver_ignoresTransit _ queue
          (freeIfDone i (writeRecord i (retireShadow s.ctl.state .released (reasonOfByte x.reason) r) s))

theorem adopt_ignoresTransit (epoch : Word32) (members : List StationId) : IgnoresTransit (adopt epoch members) := by
  have claims : IgnoresTransit fun s => adoptClaims epoch (adoptBase epoch members s) := by
    intro queue s
    have pass := passOver_ignoresTransit isOpenOwn
      (fun i r => some (adoptOwn s.table epoch s.stationId i r)) queue (adoptBase epoch members s)
    have before : adoptClaims epoch (adoptBase epoch members (withTransit queue s)) =
        (passOver isOpenOwn (fun i r => some (adoptOwn s.table epoch s.stationId i r))
          (withTransit queue (adoptBase epoch members s))).andThen fun t =>
            .done { t with clock := BitVec.ofNat 32 (s.table.count ownWaiting) } := rfl
    simp only
    rw [before, pass, Reading.map_andThen _ fun _ => rfl]
    rfl
  have fence : IgnoresTransit fun s => .done (decideFence s) := ignoresTransit_done fun _ _ => rfl
  have shadows : IgnoresTransit adoptShadows := fun queue s => by
    have pass := passOver_ignoresTransit isLive
      (fun _ r => some (adoptShadow s.census.previousRoster s.census.roster s.ctl.config.orphanHold r)) queue s
    have before : adoptShadows (withTransit queue s) =
        (passOver isLive (fun _ r => some (adoptShadow s.census.previousRoster s.census.roster s.ctl.config.orphanHold r))
          (withTransit queue s)).andThen fun t => .done (decideFence t) := rfl
    rw [before, pass, Reading.map_andThen (withTransit queue) (fence queue)]
    rfl
  have marked : IgnoresTransit fun s => .done (markStateNow .active none s) := ignoresTransit_done fun _ _ => rfl
  exact (claims.andThen shadows).andThen marked

/-! ### The frame's way out of hand -/

theorem Awaits.dropped (h : Awaits s ready f later) : Moves s (dropHand (withTransit (handQueue ready f later) s)) :=
  .head (.takenOut h) (.single (.aside (dropHand_aside h (v := withTransit (handQueue ready f later) s) rfl)))

theorem Partial.withTransit (h : Partial s u) (queue : List TransitEntry) : Partial s (withTransit queue u) :=
  h.of_parts h.live rfl rfl rfl rfl rfl rfl rfl rfl rfl

/-- The frame is forwarded when the owning block has worked, which is as if it had been marked ready first. -/
theorem Awaits.forwarded (h : Awaits s ready f later) {k : State → Reading} (beside : IgnoresTransit k)
    (work : ∀ queue, (k (Machine.withTransit queue s)).Ends (Moves (Machine.withTransit queue s))
      (Partial (Machine.withTransit queue s))) :
    (thenReady f (k (Machine.withTransit (handQueue ready f later) s))).Ends (Moves s) (Partial s) := by
  have own : (k s).Ends (Moves s) (Partial s) := work s.fh.transit
  have out := work (sentOn ready f later)
  unfold thenReady
  rw [beside] at out ⊢
  cases hk : k s with
  | done u =>
    simp only [hk, Reading.map, ends_done, Reading.andThen] at out ⊢
    refine .head (.takenOn { f with hop := f.hop + 1 } h) ?_
    rw [readyHand_eq h f rfl]
    exact out
  | failed i u =>
    simp only [hk, Reading.map, ends_failed, Reading.andThen] at own ⊢
    exact own.withTransit _

/-! ### ANNOUNCE and RELEASE -/

theorem setIncomplete_move (allowed : dueAllowed s.ctl.state = true) : Move s (setIncomplete s) :=
  .shadowUnit (.incomplete allowed)

theorem processAnnounce_moves (f : Frame) (a : Announce) (allowed : dueAllowed s.ctl.state = true) :
    (processAnnounce f a s).Ends (Moves s) (Partial s) := by
  unfold processAnnounce
  split
  · exact .refl (not_halted_of_dueAllowed allowed)
  · rename_i i r found
    obtain ⟨held, named, -⟩ := lookup_eq_found found
    simp only [isShadowOf, Bool.and_eq_true, beq_iff_eq] at named
    split
    · exact .single (setIncomplete_move allowed)
    · rename_i open'
      exact .single (moves_writeRecord held (.refreshed _ named.1 open' allowed))
  · split
    · exact .single (setIncomplete_move allowed)
    · rename_i i free
      exact .single (.shadowed i _ a (lowestFree_free free) allowed)

/-- The retirement of a shadow before the wake rule, as far as an event cut short there has come. -/
theorem Partial.retiredShadow {i : SlotNo} {r : Record} (held : s.record i = some r) (shadow : r.kind = .shadow)
    (open' : r.state ≠ .retired) (live : s.ctl.state ≠ .halted) (reason : ReleaseReason) :
    Partial s (freeIfDone i (writeRecord i (retireShadow s.ctl.state .released reason r) s)) := by
  have each : ∀ j x, (freeIfDone i (writeRecord i (retireShadow s.ctl.state .released reason r) s)).record j = some x →
      ∃ y, s.record j = some y ∧ x.kind = y.kind ∧ (RecordsFit s → FieldsFit x) := by
    intro j x hx
    rw [freeIfDone_record, record_writeRecord] at hx
    split at hx
    · rename_i hij
      obtain ⟨rfl, -⟩ := eq_of_keepUnlessDone hx
      refine ⟨r, hij ▸ held, rfl, fun fit => (fit.fields i r held).retireShadow shadow ?_⟩
      rcases fit.shadow_state held shadow open' with h | h <;> simp [h]
    · exact ⟨x, hx, rfl, fun fit => fit.fields j x hx⟩
  refine ⟨live, rfl, rfl, rfl, rfl, rfl, rfl, rfl, .inl rfl, fun fit j x hx => ?_, fun bound => ?_⟩
  · obtain ⟨-, -, -, fields⟩ := each j x hx
    exact fields fit
  · refine (ownCount_mono fun j x hx own => ?_).trans bound
    obtain ⟨y, hy, kind, -⟩ := each j x hx
    exact ⟨y, hy, kind ▸ own⟩

theorem releasedShadow_moves {i : SlotNo} {r : Record} (held : s.record i = some r) (shadow : r.kind = .shadow)
    (open' : r.state ≠ .retired) (live : s.ctl.state ≠ .halted) (reason : ReleaseReason) (hit : Range → Bool) :
    (wakeOver hit (freeIfDone i (writeRecord i (retireShadow s.ctl.state .released reason r) s))).Ends (Moves s)
      (Partial s) := by
  have first : Move s (freeIfDone i (writeRecord i (retireShadow s.ctl.state .released reason r) s)) :=
    moves_writeOrFree held fun kept => .lapsed _ _ shadow open' (kept rfl)
  have woken := wakeOver_moves hit (freeIfDone i (writeRecord i (retireShadow s.ctl.state .released reason r) s))
  have cut := wakeOver_ends hit (freeIfDone i (writeRecord i (retireShadow s.ctl.state .released reason r) s))
  generalize wakeOver hit _ = out at woken cut
  cases out with
  | done t => exact .head first woken
  | failed j t =>
    exact (Partial.retiredShadow held shadow open' live reason).rework cut.2.1 (cut.2.reworked (respects_wakeRecord hit))

theorem processRelease_moves (x : Release) (live : s.ctl.state ≠ .halted) :
    (processRelease x s).Ends (Moves s) (Partial s) := by
  unfold processRelease
  split
  · exact wake_moves _ s
  · split
    · exact .refl live
    · exact wake_moves _ s
    · rename_i i r found
      obtain ⟨held, named, -⟩ := lookup_eq_found found
      simp only [isShadowOf, Bool.and_eq_true, beq_iff_eq] at named
      split
      · exact wake_moves _ s
      · rename_i open'
        exact releasedShadow_moves held named.1 open' live _ _

/-! ### Own frames -/

theorem genuineReturn_moves {i : SlotNo} {r : Record} (b : Ballot) (held : s.record i = some r) (own : r.kind = .own)
    (pending : r.state = .pending) (timed : r.mainTimer.isSome) :
    (genuineReturn i b r s).Ends (Moves s) (Partial s) := by
  unfold genuineReturn
  simp only
  split
  · exact .single (moves_writeRecord held (.granted _ own pending timed))
  · split
    · exact .single (moves_writeRecord held (.reissued 0 own pending timed (Nat.zero_le _)))
    · split
      · exact retireReturned_moves held own (by simp [pending]) (Nat.zero_le _) _ _ _
      · exact .single (moves_writeRecord held (.waits own pending timed))

/-- A ballot loss at a return, the ballot timer stopped (R41, R45). -/
theorem returnLoss_moves {i : SlotNo} {r : Record} (held : s.record i = some r) (own : r.kind = .own)
    (pending : r.state = .pending) (timed : r.mainTimer.isSome) :
    (ballotLoss i { r with mainTimer := none } s).Ends (Moves s) (Partial s) := by
  unfold ballotLoss
  split
  · rename_i bound
    exact .single (moves_writeRecord held (.reissued _ own pending timed bound))
  · exact retireReturned_moves held own (by simp [pending]) (le_refl _) _ _ _

theorem ballotReturns_moves (f : Frame) (b : Ballot) (live : s.ctl.state ≠ .halted) :
    (ballotReturns f b s).Ends (Moves s) (Partial s) := by
  unfold ballotReturns
  split
  · split
    · exact .refl
    · exact .refl live
    · rename_i i r found
      obtain ⟨held, matched, -⟩ := lookup_eq_found found
      simp only [matchesReturn, Bool.and_eq_true, beq_iff_eq] at matched
      obtain ⟨⟨⟨⟨own, pending⟩, -⟩, -⟩, timed⟩ := matched
      split
      · exact genuineReturn_moves b held own pending timed
      · exact returnLoss_moves held own pending timed
  · exact .refl

theorem judgeOwnCensus_roster {f : Frame} {members : List StationId} {c : CensusUnit} {d : RosterDue}
    (h : judgeOwnCensus f members c = .roster d) : c.bestKey = some (censusKey f) ∧ d.epoch = f.epoch := by
  unfold judgeOwnCensus at h
  simp only at h
  split at h
  · rename_i best
    split at h
    · cases h
    · split at h
      · cases h
      · split at h
        · cases h
          exact ⟨best.symm, rfl⟩
        · cases h
  · split at h <;> cases h

theorem ownCensusReturns_moves {members : List StationId} (own : f.origin = s.stationId)
    (working : formingOrIsolated s.ctl.state = true) (live : s.ctl.state ≠ .halted) :
    Moves s (ownCensusReturns f members s) := by
  unfold ownCensusReturns
  split
  · exact .single (.halt _ (.refl live))
  · exact .refl
  · exact .single (.aside ⟨rfl, BitVec.le_refl _, id⟩)
  · rename_i d judged
    obtain ⟨best, epoch⟩ := judgeOwnCensus_roster judged
    refine .single (.rosterOwed d working ?_)
    rw [best, censusKey, own, epoch]

theorem strip_moves (h : Awaits s ready f later) (own : f.origin = s.stationId) (live : s.ctl.state ≠ .halted) :
    Moves s (strip f (withTransit (handQueue ready f later) s)).settle := by
  have counted : Moves s (countReturn f (dropHand (withTransit (handQueue ready f later) s))) :=
    .tail h.dropped (.aside ⟨rfl, BitVec.le_refl _, id⟩)
  unfold strip
  simp only
  split
  · rename_i b body
    refine counted.trans (Reading.Ends.moves (ballotReturns_moves f b ?_))
    exact live
  · split
    · rename_i working
      exact counted.trans (ownCensusReturns_moves own working live)
    · exact counted
  · exact counted

/-! ### A BALLOT -/

/-- The claim clock raised to a ballot's count (R10). -/
def raisedBy (b : Ballot) (s : State) : State := { s with clock := if s.clock < b.count then b.count else s.clock }

theorem aside_raisedBy (b : Ballot) (s : State) : Aside s (raisedBy b s) := by
  refine ⟨rfl, ?_, id⟩
  unfold raisedBy
  simp only
  split
  · exact BitVec.le_of_lt ‹_›
  · exact BitVec.le_refl _

theorem startScan_eq (f : Frame) (b : Ballot) (s : State) :
    startScan f b s = if s.fenceActive then
      readyHand (writeVerdict s.stationId true f)
        { raisedBy b s with shadow := { s.shadow with fenceObjected := true } }
    else withScan (some { nextSlot := 0, objection := false }) (raisedBy b s) := rfl

theorem startScan_moves (h : Awaits s ready f later) {b : Ballot} (body : f.body = .ballot b)
    (allowed : dueAllowed s.ctl.state = true) : Moves s (startScan f b (withTransit (handQueue ready f later) s)) := by
  rw [startScan_eq]
  split
  · rename_i fence
    rw [readyHand_eq h _ rfl]
    exact .head (.takenOn _ h) (.head (.aside (aside_raisedBy b _)) (.single (.shadowUnit (.objected fence))))
  · exact .head (.scanBegun h (by simp [isBallot, body]) allowed) (.single (.aside (aside_raisedBy b _)))

/-! ### CENSUS and ROSTER -/

theorem keyAbove_irrefl (k : Key) : keyAbove k k = false := by simp [keyAbove]

/-- A judgement that halts the station leaves the census unit alone (R135). -/
theorem judgeCensus_census_of_halt {id : StationId} {members : List StationId} {c : CensusUnit}
    (h : (judgeCensus id f members c).1 = .halt) : (judgeCensus id f members c).2 = c := by
  unfold judgeCensus at h ⊢
  simp only at h ⊢
  split
  · split <;> rfl
  · rename_i foreign
    rw [if_neg foreign] at h
    split
    · rfl
    · rename_i other
      rw [if_neg other] at h
      split
      · rename_i above
        rw [if_pos above] at h
        cases h
      · rfl

/-- A judgement that does not halt the station accepts the keys above the best, and changes nothing for others (R135). -/
theorem judgeCensus_census {id : StationId} {members : List StationId} {c : CensusUnit}
    (h : (judgeCensus id f members c).1 ≠ .halt) :
    (judgeCensus id f members c).2 =
      if aboveBest (censusKey f) c.bestKey then acceptKey (censusKey f) c else c := by
  unfold judgeCensus at h ⊢
  simp only at h ⊢
  split
  · rename_i member
    rw [if_pos member] at h
    split
    · rename_i above
      exact absurd (by simp [above]) h
    · rfl
  · split
    · rename_i same
      rw [← same]
      simp [aboveBest, keyAbove_irrefl]
    · split <;> rfl

/-- What a forwarded or discarded frame leaves of the transit queue. -/
def judgedQueue (v : CensusVerdict) (ready later : List TransitEntry) : List TransitEntry :=
  match v with
  | .forward g => sentOn ready g later
  | _ => ready ++ later

theorem applyVerdict_aside (h : Awaits s ready f later) {verdict : CensusVerdict} (live : verdict ≠ .halt)
    (hq : v.fh.transit = handQueue ready f later) :
    Aside (withTransit (judgedQueue verdict ready later) v) (applyVerdict verdict v) := by
  cases verdict with
  | halt => exact absurd rfl live
  | discard => exact dropHand_aside h hq
  | forward g =>
    rw [applyVerdict, readyHand_eq h g hq]
    exact ⟨rfl, BitVec.le_refl _, id⟩

/-- With no frame in hand a judged frame changes nothing but what the return lane has carried. -/
theorem applyVerdict_noHand {verdict : CensusVerdict} (live : verdict ≠ .halt)
    (none' : ∀ e ∈ v.fh.transit, e.cond ≠ .inHand) : Moves v (applyVerdict verdict v) := by
  cases verdict with
  | halt => exact absurd rfl live
  | discard => exact .single (.aside (dropHand_noHand none'))
  | forward g =>
    rw [applyVerdict, readyHand_noHand none' g]

/-- The judged frame leaves the hand in one move. -/
theorem Awaits.judged (h : Awaits s ready f later) (verdict : CensusVerdict) :
    Move s (withTransit (judgedQueue verdict ready later) s) := by
  cases verdict with
  | halt => exact .takenOut h
  | discard => exact .takenOut h
  | forward g => exact .takenOn _ h

/-- The best key after a judgement that does not halt the station (R135). -/
theorem moves_judgedKey {members : List StationId} (working : formingOrIsolated s.ctl.state = true)
    (live : (judgeCensus s.stationId f members s.census).1 ≠ .halt) :
    Moves s (withCensus (judgeCensus s.stationId f members s.census).2 s) := by
  rw [judgeCensus_census live]
  split
  · rename_i above
    exact .single (.keyAccepted _ working above)
  · exact .refl

theorem foreignCensus_moves (h : Awaits s ready f later) (members : List StationId)
    (working : formingOrIsolated s.ctl.state = true) (live : s.ctl.state ≠ .halted) :
    Moves s (foreignCensus f members (withTransit (handQueue ready f later) s)) := by
  change Moves s (applyVerdict (judgeCensus s.stationId f members s.census).1
    (withCensus (judgeCensus s.stationId f members s.census).2 (withTransit (handQueue ready f later) s)))
  by_cases halts : (judgeCensus s.stationId f members s.census).1 = .halt
  · rw [judgeCensus_census_of_halt halts, halts]
    exact .single (.halt _ ((Partial.refl live).withTransit _))
  · refine .head (h.judged (judgeCensus s.stationId f members s.census).1) ?_
    have judged := moves_judgedKey (f := f) (members := members)
      (s := withTransit (judgedQueue (judgeCensus s.stationId f members s.census).1 ready later) s) working halts
    exact .tail judged (.aside (applyVerdict_aside h halts (v := withCensus (judgeCensus s.stationId f members s.census).2
      (withTransit (handQueue ready f later) s)) rfl))

theorem foreignRoster_moves (h : Awaits s ready f later) (members : List StationId)
    (working : formingOrIsolated s.ctl.state = true) :
    (foreignRoster f members (withTransit (handQueue ready f later) s)).Ends (Moves s) (Partial s) := by
  unfold foreignRoster
  split
  · rename_i fits
    simp only [rosterFits, Bool.and_eq_true, beq_iff_eq] at fits
    obtain ⟨⟨⟨⟨best, -⟩, -⟩, -⟩, -⟩ := fits
    exact h.forwarded (adopt_ignoresTransit f.epoch members) fun queue =>
      adopt_moves working (fun _ => ⟨f.origin, best.symm⟩) (.inl rfl)
  · exact h.dropped

/-! ### The entry to FORMING by a foreign CENSUS -/

/-- The census unit in an entry to FORMING, before a key is proposed or accepted (R149). -/
theorem formingUnits_census (v : State) :
    (formingUnits v).census = { v.census with
      censusDue := false, rosterDue := none, retryTimer := none, formationTimer := some v.ctl.config.formationLimit } := by
  unfold formingUnits abandonScan
  split <;> rfl

/-- With no scan running the entry to FORMING leaves the transit queue alone. -/
theorem formingUnits_withTransit (scan : v.scan = none) (queue : List TransitEntry) :
    formingUnits (withTransit queue v) = withTransit queue (formingUnits v) := by
  simp [formingUnits, abandonScan, withTransit, scan, flushOrigination]

theorem formingUnits_transit (scan : v.scan = none) : (formingUnits v).fh.transit = v.fh.transit := by
  simp [formingUnits, abandonScan, scan, flushOrigination]

/-- What an abandoned scan leaves, given the queue it leaves. -/
theorem dropHand_scanless {queue : List TransitEntry} (hq : (dropHand { v with scan := none }).fh.transit = queue) :
    ∃ sent, dropHand { v with scan := none } =
      { withTransit queue v with scan := none, up := { v.up with sent := sent } } := by
  subst hq
  exact ⟨_, rfl⟩

/-- An abandoned scan drops the frame in hand. -/
theorem formingUnits_dropped (h : Awaits s ready f later) (scan : v.scan.isSome)
    (hq : v.fh.transit = handQueue ready f later) (c : CensusUnit) :
    Aside (withCensus c (formingUnits (withTransit (ready ++ later) v))) (withCensus c (formingUnits v)) ∧
      (formingUnits v).fh.transit = ready ++ later := by
  have scan' : (withTransit (ready ++ later) v).scan.isSome = true := scan
  have dropped : (dropHand { v with scan := none }).fh.transit = ready ++ later := by
    simp only [dropHand, hq, handQueue, queueWithout_hand h]
    rfl
  have kept : (dropHand { withTransit (ready ++ later) v with scan := none }).fh.transit = ready ++ later :=
    filter_hand_eq_self h.noHand
  unfold formingUnits abandonScan
  rw [if_pos scan, if_pos scan']
  refine ⟨⟨?_, BitVec.le_refl _, id⟩, dropped⟩
  obtain ⟨sent, hd⟩ := dropHand_scanless dropped
  obtain ⟨sent', hk⟩ := dropHand_scanless kept
  rw [hd, hk]
  rfl

theorem formingByCensus_moves (h : Awaits s ready f later) (members : List StationId) (active : s.ctl.state = .active)
    (newer : s.census.epoch < f.epoch) :
    (formingByCensus f members (withTransit (handQueue ready f later) s)).Ends (Moves s) (Partial s) := by
  have base : Partial s (withState .forming (withTransit (handQueue ready f later) s)) :=
    ((Partial.refl (by simp [active])).withTransit _).withState (by simp)
  refine (formingBase_ends (withTransit (handQueue ready f later) s)).andThen ?done fun _ cut => base.work cut
  rintro t ⟨v, table, rfl⟩
  have hv : v = { withState .forming (withTransit (handQueue ready f later) s) with table := v.table } := table.1
  have hq : v.fh.transit = handQueue ready f later := by rw [hv]; rfl
  have best : v.census = s.census := by rw [hv]; rfl
  have units : Partial s (formingUnits v) := (base.work (table.workedOn respects_clearForming)).formingUnits
  generalize hj : judgeCensus (formingUnits v).stationId f members (formingUnits v).census = out
  have key : out.1 ≠ .halt → out.2 = if aboveBest (censusKey f) (formingUnits v).census.bestKey
      then acceptKey (censusKey f) (formingUnits v).census else (formingUnits v).census := by
    rw [← hj]
    exact judgeCensus_census
  have formed : ∀ queue : List TransitEntry, out.1 ≠ .halt → Move (withTransit queue s)
      (withCensus out.2 (formingUnits (withTransit queue v))) := by
    intro queue live
    have table' : Rewritten (fun _ r => clearDue (formingOwn r)) (withState .forming (withTransit queue s))
        (withTransit queue v) := by
      refine ⟨?_, table.2.1, table.2.2⟩
      rw [hv]
      rfl
    have move := Move.formedBy (s := withTransit queue s) (censusKey f) active newer table'
    rw [key live, formingUnits_census]
    rw [formingUnits_census] at move
    exact move
  by_cases halts : out.1 = .halt
  · simp only [ends_done, halts]
    have same : out.2 = (formingUnits v).census := by
      rw [← hj] at halts ⊢
      exact judgeCensus_census_of_halt halts
    refine .single (.halt _ (units.of_parts units.live rfl rfl rfl rfl rfl rfl rfl ?_ ?_)) <;> simp [same]
  · simp only [ends_done]
    by_cases scan : v.scan.isSome
    · obtain ⟨dropped, transit⟩ := formingUnits_dropped h scan hq out.2
      have noHand : ∀ e ∈ (markStateNow .forming none (withCensus out.2 (formingUnits v))).fh.transit, e.cond ≠ .inHand := by
        change ∀ e ∈ (formingUnits v).fh.transit, e.cond ≠ .inHand
        rw [transit]
        exact h.noHand
      have shown : Moves s (markStateNow .forming none (withCensus out.2 (formingUnits v))) :=
        .head (.takenOut h) (.head (formed _ halts) (.head (.aside dropped) (.single (.aside (aside_markStateNow ..)))))
      exact .trans shown (applyVerdict_noHand halts noHand)
    · rw [Option.not_isSome_iff_eq_none] at scan
      have judged := applyVerdict_aside h halts
        (v := markStateNow .forming none (withCensus out.2 (formingUnits v))) ((formingUnits_transit scan).trans hq)
      have move := formed (judgedQueue out.1 ready later) halts
      rw [formingUnits_withTransit scan] at move
      have shown : Aside (withCensus out.2 (withTransit (judgedQueue out.1 ready later) (formingUnits v)))
          (withTransit (judgedQueue out.1 ready later) (markStateNow .forming none (withCensus out.2 (formingUnits v)))) :=
        ⟨rfl, BitVec.le_refl _, id⟩
      exact .head (h.judged out.1) (.head move (.head (.aside shown) (.single (.aside judged))))

/-! ### FRAME_TAKING -/

/-- In LEAVING the entry to DETACHED flushes the transit queue, whatever it holds. -/
theorem enterDetached_withTransit (out : LeaveOutcome) (queue : List TransitEntry) (s : State) :
    enterDetached out (withTransit queue s) = enterDetached out s := rfl

theorem dispatchActive_moves (h : Awaits s ready f later) (ring : s.ctl.state = .active ∨ s.ctl.state = .leaving) :
    (dispatchActive f (withTransit (handQueue ready f later) s)).Ends (Moves s) (Partial s) := by
  have allowed : dueAllowed s.ctl.state = true := by rcases ring with e | e <;> rw [e] <;> rfl
  have live := not_halted_of_dueAllowed allowed
  unfold dispatchActive
  split
  · rename_i b body
    split
    · exact startScan_moves h body allowed
    · exact h.dropped
  · rename_i a body
    split
    · exact h.forwarded (processAnnounce_ignoresTransit f a) fun queue => processAnnounce_moves f a allowed
    · exact h.dropped
  · rename_i x body
    split
    · exact h.forwarded (processRelease_ignoresTransit x) fun queue => processRelease_moves x live
    · exact h.dropped
  · rename_i members body
    split
    · rename_i newer
      split
      · rename_i active
        exact formingByCensus_moves h members active newer
      · rename_i other
        rw [enterDetached_withTransit]
        exact enterDetached_moves (ring.resolve_left other) _
    · exact h.dropped
  · exact h.dropped

theorem dispatchForming_moves (h : Awaits s ready f later) (working : formingOrIsolated s.ctl.state = true)
    (live : s.ctl.state ≠ .halted) :
    (dispatchForming f (withTransit (handQueue ready f later) s)).Ends (Moves s) (Partial s) := by
  unfold dispatchForming
  split
  · exact foreignCensus_moves h _ working live
  · exact foreignRoster_moves h _ working
  · exact h.dropped

theorem processHand_moves (h : Awaits s ready f later) (ring : inRing s.ctl.state = true) :
    Moves s (processHand f (withTransit (handQueue ready f later) s)).settle := by
  have live := not_halted_of_inRing ring
  unfold processHand
  split
  · rename_i own
    exact strip_moves h own live
  · split
    · exact h.dropped
    · split
      · rename_i active
        exact (dispatchActive_moves h active).moves
      · rename_i other
        have other : ¬ (s.ctl.state = .active ∨ s.ctl.state = .leaving) := other
        refine (dispatchForming_moves h ?_ live).moves
        cases hs : s.ctl.state <;> simp_all [inRing, formingOrIsolated]

theorem moves_frameTaking (h : execFrameTaking s = .next t) : Moves s t := by
  cases h
  split
  · rename_i f queue ring hand taken
    have none' := handFrame_eq_none hand
    obtain ⟨ready, later, hq, before, rfl⟩ := takeOldest_eq_some none' taken
    refine processHand_moves ⟨hq, before, fun e he => none' e ?_⟩ ring
    rw [hq]
    simp [he]
  · exact .refl

end

end Sys2Proof.Machine
end

section
/-! PROOF. What one command leads to: a run of moves, a departure that starts a ballot timer, or the values of a reset. -/

namespace Sys2Proof.Machine

section
variable {s t u : State}

/-- The station has been reset: every item beside the host port and the waiting commands has its reset value (R163, R164). -/
structure Restarted (s t : State) : Prop where
  values : ∃ cause, t = { State.afterReset cause with host := t.host, resetn := t.resetn, pending := s.pending }

/-- What a command beside the resets does within the station. -/
inductive StationRun (s t : State) : Prop
  | moves (h : Moves s t)
  | configured (c : Configuration) (fresh : s.ctl.configured = false) (unborn : s.ctl.state = .unconfigured)
      (out : t = acceptConfiguration c s)
  | ballot {x : InSend} {b : Ballot} {i : SlotNo} {r : Record} (h : DepartsBallot s t x b i r)

/-- The same, with what it does to the host port before and behind. -/
def Runs (s t : State) : Prop := ∃ before after u, StationRun { s with host := before } u ∧ t = { u with host := after }

theorem runs_of_stationRun (h : StationRun s t) : Runs s t := ⟨s.host, t.host, t, h, rfl⟩

theorem HostMoves.runs (h : HostMoves s t) : Runs s t := by
  obtain ⟨before, after, u, moves, out⟩ := h
  exact ⟨before, after, u, .moves moves, out⟩

/-- A command taken, given what its body does. -/
theorem runs_placeCompletion {before : HostPort} (h : StationRun { s with host := before } u) (e : CommandEntry) (c : Completion) :
    Runs s (placeCompletion e c u) := ⟨before, _, u, h, rfl⟩

/-- CONFIGURE changes nothing or is accepted (R152, R153). -/
theorem configureBody_cases (e : CommandEntry) (s : State) : (configureBody e s).2 = s ∨
    ∃ c, s.ctl.configured = false ∧ s.ctl.state = .unconfigured ∧ (configureBody e s).2 = acceptConfiguration c s := by
  unfold configureBody
  split
  · exact .inl rfl
  · rename_i fresh
    split
    · exact .inl rfl
    · rename_i unborn
      split
      · exact .inl rfl
      · exact .inr ⟨_, by simpa using fresh, not_not.1 unborn, rfl⟩

theorem configure_runs (h : execConfigure s = .next t) : Runs s t := by
  cases h
  obtain same | ⟨e, rest, -, -, -, same⟩ := takeCommand_cases (some .configure) configureBody s
  · rw [same]
    exact runs_of_stationRun (.moves .refl)
  · rw [same]
    refine runs_placeCompletion (before := { s.host with commands := rest }) ?_ e _
    obtain body | ⟨c, fresh, unborn, body⟩ := configureBody_cases e { s with host := { s.host with commands := rest } }
    · rw [body]
      exact .moves .refl
    · exact .configured c fresh unborn body

theorem moves_unknownCommand (h : execUnknownCommand s = .next t) : HostMoves s t := by
  cases h
  exact moves_takeCommand _ (fun _ _ => .refl) s

theorem moves_known (which : HostCommand) {body : CommandEntry → State → Completion × State}
    (h : ∀ e u, Moves u (body e u).2) (s : State) : HostMoves s (takeCommand (some which) (ifConfigured body) s) :=
  moves_takeCommand _ (fun e u => moves_ifConfigured e (h e u)) s

theorem stationReset_leads (e : SpiEvent) (s : State) :
    HostMoves s (transact .stationReset e s) ∨
      Restarted s (transact .stationReset e s) ∧ (transact .stationReset e s).resetn = s.resetn := by
  cases e with
  | fall => exact .inl (moves_spiFall s)
  | code b => exact .inl (moves_spiCode _ b s)
  | rise data =>
    simp only [transact, spiRise]
    split
    · exact .inl (hostMoves_of_moves .refl)
    · split
      · exact .inl (hostMoves_host _ s)
      · split
        · rename_i same
          subst same
          split
          · exact .inr ⟨⟨.host, rfl⟩, rfl⟩
          · exact .inl (hostMoves_host _ s)
        · exact .inl (hostMoves_of_moves .refl)

theorem resetn_restarts (h : execResetn s = .next t) : Restarted s t := by
  cases h
  cases s.resetn with
  | true => exact ⟨.pin, rfl⟩
  | false => exact ⟨.pin, rfl⟩

theorem frameDeparture_runs (h : execFrameDeparture s = .next t) : Runs s t := by
  rcases moves_frameDeparture h with h | ⟨x, b, i, r, h⟩
  · exact runs_of_stationRun (.moves h)
  · exact runs_of_stationRun (.ballot h)

/-- Every command beside the two resets. -/
theorem exec_runs {c : Instr} (h : exec c s = .next t) (notPin : c ≠ .resetn) (notHost : ∀ e, c ≠ .stationReset e) :
    Runs s t := by
  cases c with
  | resetn => exact absurd rfl notPin
  | stationReset e => exact absurd rfl (notHost e)
  | writeCommand e => cases h; exact (moves_transact (by simp) e s).runs
  | readResult e => cases h; exact (moves_transact (by simp) e s).runs
  | readStatus e => cases h; exact (moves_transact (by simp) e s).runs
  | writeIndex e => cases h; exact (moves_transact (by simp) e s).runs
  | readWindow e => cases h; exact (moves_transact (by simp) e s).runs
  | configure => exact configure_runs h
  | claim => cases h; exact (moves_known _ moves_claimBody s).runs
  | cancel => cases h; exact (moves_known _ moves_cancelBody s).runs
  | release => cases h; exact (moves_known _ moves_releaseBody s).runs
  | renew => cases h; exact (moves_known _ moves_renewBody s).runs
  | resync => cases h; exact (moves_known _ moves_resyncBody s).runs
  | leave => cases h; exact (moves_known _ moves_leaveBody s).runs
  | unknownCommand => exact (moves_unknownCommand h).runs
  | recordNoticeDrain => exact (moves_recordNoticeDrain h).runs
  | stationNoticeDrain => exact (moves_stationNoticeDrain h).runs
  | tick => cases h; exact runs_of_stationRun (.moves (moves_tickStation s))
  | ballotTimerExpiry i => exact runs_of_stationRun (.moves (moves_ballotTimerExpiry h))
  | waitLimitExpiry i => exact runs_of_stationRun (.moves (moves_waitLimitExpiry h))
  | termExpiry i => exact runs_of_stationRun (.moves (moves_termExpiry h))
  | shadowTimerExpiry i => exact runs_of_stationRun (.moves (moves_shadowTimerExpiry h))
  | fenceExpiry => exact runs_of_stationRun (.moves (moves_fenceExpiry h))
  | censusRetryExpiry => exact runs_of_stationRun (.moves (moves_censusRetryExpiry h))
  | formationTimerExpiry => exact runs_of_stationRun (.moves (moves_formationTimerExpiry h))
  | leaveTimerExpiry => exact runs_of_stationRun (.moves (moves_leaveTimerExpiry h))
  | drainCompletion => exact runs_of_stationRun (.moves (moves_drainCompletion h))
  | frameArrival bytes => exact runs_of_stationRun (.moves (moves_frameArrival h))
  | receiveLockGained port groups => exact runs_of_stationRun (.moves (moves_receiveLockGained h))
  | receiveLockLost port cause => exact runs_of_stationRun (.moves (moves_receiveLockLost h))
  | farLockSet port inFrame g => exact runs_of_stationRun (.moves (moves_farLockSet h))
  | farLockClear port => exact runs_of_stationRun (.moves (moves_farLockClear h))
  | token => exact runs_of_stationRun (.moves (moves_token h))
  | advertise => exact runs_of_stationRun (.moves (moves_advertise h))
  | rebase => exact runs_of_stationRun (.moves (moves_rebase h))
  | advertiseSend => exact runs_of_stationRun (.moves (moves_advertiseSend h))
  | frameTaking => exact runs_of_stationRun (.moves (moves_frameTaking h))
  | scanVisit => exact runs_of_stationRun (.moves (moves_scanVisit h))
  | dueService => exact runs_of_stationRun (.moves (moves_dueService h))
  | arbiterChoice => exact runs_of_stationRun (.moves (moves_arbiterChoice h))
  | frameDeparture => exact frameDeparture_runs h

/-- What any command comes to. -/
theorem exec_leads {c : Instr} (h : exec c s = .next t) : Runs s t ∨ Restarted s t := by
  by_cases notPin : c = .resetn
  · subst notPin
    exact .inr (resetn_restarts h)
  · by_cases notHost : ∃ e, c = .stationReset e
    · obtain ⟨e, rfl⟩ := notHost
      cases h
      exact (stationReset_leads e s).imp HostMoves.runs And.left
    · exact .inl (exec_runs h notPin (not_exists.1 notHost))

/-- A step, from the state without the command that it takes. -/
theorem step_leads (h : step s = .next t) :
    ∃ pending, Runs { s with pending := pending } t ∨ Restarted { s with pending := pending } t := by
  unfold step at h
  split at h
  · cases h
    exact ⟨s.pending, .inl (runs_of_stationRun (.moves (moves_refclkPeriod s)))⟩
  · rename_i c rest _
    exact ⟨rest, exec_leads h⟩

end

end Sys2Proof.Machine
end

section
/-! PROOF. The ports, BYPASSN and the station state stay in agreement (R95 to R102, R105, R109, R110). -/

namespace Sys2Proof.Machine

section
variable {s t u v w : State}

/-! ### The parts of the agreement -/

/-- What the upstream port shows within and without the ring (R96 to R101, R110). -/
structure UpFits (ring : Bool) (u : UpstreamPort) : Prop where
  off : u.link = .off ↔ ring = false
  lock : readsSymbols u.link = true → u.receiveLock = true
  far : u.farLock = true → u.receiveLock = true
  up : u.link = .up → u.farLock = true
  offLock : ring = false → u.receiveLock = false
  offRun : ring = false → u.badRun = 0
  owed : u.link = .creditWait → u.advertisementOwed = true
  notOwed : u.link = .off ∨ u.link = .training → u.advertisementOwed = false

/-- The same of the downstream port (R96 to R102, R110). -/
structure DownFits (ring : Bool) (d : DownstreamPort) : Prop where
  off : d.link = .off ↔ ring = false
  lock : readsSymbols d.link = true → d.receiveLock = true
  far : d.farLock = true → d.receiveLock = true
  up : d.link = .up → d.farLock = true
  offLock : ring = false → d.receiveLock = false
  credit : d.link ≠ .up → d.credit = 0

/-- A frame in send stands on a lane that carries it, and a REBASE waits for it where the port has been rebased (R105). -/
def SendFits (d : DownstreamPort) (send : Option InSend) : Prop :=
  ∀ x, send = some x → readsSymbols d.link = true ∧ (d.link = .creditWait → 0 < x.rebases)

/-- The agreement, part by part. -/
structure PartsFit (s : State) : Prop where
  up : UpFits (inRing s.ctl.state) s.up
  down : DownFits (inRing s.ctl.state) s.down
  bypass : s.ctl.bypassn = inRing s.ctl.state
  configured : inRing s.ctl.state = true → s.ctl.configured = true
  send : SendFits s.down s.fh.inSend
  holding : s.fh.transit ≠ [] → s.up.link = .up

theorem outOfRing_iff (st : StationState) : outOfRing st = true ↔ inRing st = false := by
  simp [outOfRing]

theorem LinksFit.parts (h : LinksFit s) : PartsFit s := by
  refine ⟨⟨?_, h.upLock, h.upFar, h.upUp, fun hr => (h.offLock ((outOfRing_iff _).2 hr)).1,
    fun hr => h.offRun ((outOfRing_iff _).2 hr), h.owed, h.notOwed⟩,
    ⟨?_, h.downLock, h.downFar, h.downUp, fun hr => (h.offLock ((outOfRing_iff _).2 hr)).2, h.credit⟩,
    h.bypass, h.configured, fun x hx => ⟨h.sending (by simp [hx]), h.rebased x hx⟩, h.holding⟩
  · rw [← outOfRing_iff]; exact h.upOff
  · rw [← outOfRing_iff]; exact h.downOff

theorem PartsFit.links (h : PartsFit s) : LinksFit s := by
  obtain ⟨up, down, bypass, configured, send, holding⟩ := h
  refine ⟨?_, ?_, bypass, configured, up.lock, down.lock, up.far, down.far, up.up, down.up, fun hr => ?_, fun hr => ?_,
    up.owed, up.notOwed, down.credit, fun hx => ?_, fun x hx => (send x hx).2, holding⟩
  · rw [outOfRing_iff]; exact up.off
  · rw [outOfRing_iff]; exact down.off
  · rw [outOfRing_iff] at hr
    exact ⟨up.offLock hr, down.offLock hr⟩
  · rw [outOfRing_iff] at hr
    exact up.offRun hr
  · obtain ⟨x, hx⟩ := Option.isSome_iff_exists.1 hx
    exact (send x hx).1

/-- What a lane has carried has no part in the agreement. -/
theorem UpFits.withSent {ring : Bool} {p : UpstreamPort} (h : UpFits ring p) (sent : List ReturnSymbol) :
    UpFits ring { p with sent := sent } :=
  ⟨h.off, h.lock, h.far, h.up, h.offLock, h.offRun, h.owed, h.notOwed⟩

theorem DownFits.withSent {ring : Bool} {d : DownstreamPort} (h : DownFits ring d) (sent : List ForwardItem) :
    DownFits ring { d with sent := sent } :=
  ⟨h.off, h.lock, h.far, h.up, h.offLock, h.credit⟩

/-! ### What the moves leave alone -/

/-- A state whose ports, BYPASSN and place in the ring are those of another, with no more in the transit queue and a send
that has waited no less. -/
structure SameLinks (s t : State) : Prop where
  up : t.up = { s.up with sent := t.up.sent }
  down : t.down = { s.down with sent := t.down.sent }
  ring : inRing t.ctl.state = inRing s.ctl.state
  bypass : t.ctl.bypassn = s.ctl.bypassn
  configured : t.ctl.configured = s.ctl.configured
  send : ∀ x, t.fh.inSend = some x → ∃ y, s.fh.inSend = some y ∧ y.rebases = x.rebases
  holding : t.fh.transit ≠ [] → s.fh.transit ≠ []

theorem SameLinks.trans (h : SameLinks s t) (h' : SameLinks t u) : SameLinks s u := by
  refine ⟨?_, ?_, h'.ring.trans h.ring, h'.bypass.trans h.bypass, h'.configured.trans h.configured, fun x hx => ?_,
    fun hq => h.holding (h'.holding hq)⟩
  · rw [h'.up, h.up]
  · rw [h'.down, h.down]
  · obtain ⟨y, hy, same⟩ := h'.send x hx
    obtain ⟨z, hz, same'⟩ := h.send y hy
    exact ⟨z, hz, same'.trans same⟩

theorem PartsFit.same (h : PartsFit s) (same : SameLinks s t) : PartsFit t := by
  obtain ⟨up, down, bypass, configured, send, holding⟩ := h
  refine ⟨?_, ?_, ?_, ?_, fun x hx => ?_, fun hq => ?_⟩
  · rw [same.ring, same.up]; exact up.withSent _
  · rw [same.ring, same.down]; exact down.withSent _
  · rw [same.bypass, same.ring, bypass]
  · rw [same.configured, same.ring]; exact configured
  · obtain ⟨y, hy, rebases⟩ := same.send x hx
    rw [same.down, ← rebases]
    exact send y hy
  · rw [same.up]; exact holding (same.holding hq)

theorem Aside.sameLinks (h : Aside s t) : SameLinks s t := by
  rw [h.only]
  exact ⟨rfl, rfl, rfl, rfl, rfl, fun x hx => ⟨x, hx, rfl⟩, id⟩

theorem TableOnly.sameLinks (h : TableOnly s t) : SameLinks s t := by
  rw [h]
  exact ⟨rfl, rfl, rfl, rfl, rfl, fun x hx => ⟨x, hx, rfl⟩, id⟩

theorem Enters.sameLinks (h : Enters s t) : SameLinks s t := by
  cases h <;> exact ⟨rfl, rfl, rfl, rfl, rfl, fun x hx => ⟨x, hx, rfl⟩, id⟩

theorem sameLinks_withState {st : StationState} (ring : inRing st = inRing s.ctl.state) : SameLinks s (withState st s) :=
  ⟨rfl, rfl, ring, rfl, rfl, fun x hx => ⟨x, hx, rfl⟩, id⟩

/-- A frame in send that is told to have left its queue has waited as long. -/
theorem mapped_send {f : InSend → InSend} (same : ∀ x, (f x).rebases = x.rebases) {send : Option InSend} :
    ∀ x, send.map f = some x → ∃ y, send = some y ∧ y.rebases = x.rebases := by
  intro x hx
  obtain ⟨y, hy, rfl⟩ := Option.map_eq_some_iff.1 hx
  exact ⟨y, hy, (same y).symm⟩

/-- What an abandoned scan leaves in the transit queue (R76). -/
def leftByScan (v : State) : List TransitEntry :=
  if v.scan.isSome then v.fh.transit.filter fun e => e.cond != .inHand else v.fh.transit

/-- The entry to FORMING beside the table. -/
theorem formingUnits_eq (v : State) : ∃ sent, formingUnits v =
    { v with
      up := { v.up with sent := sent }
      fh := { v.fh with
        transit := leftByScan v, origination := [], inSend := v.fh.inSend.map (leaveQueue .origination) }
      scan := none
      shadow := { v.shadow with fenceEndDue := false }
      census := { v.census with
        censusDue := false, rosterDue := none, retryTimer := none,
        formationTimer := some v.ctl.config.formationLimit } } := by
  unfold formingUnits abandonScan leftByScan
  by_cases scan : v.scan.isSome
  · simp only [scan, if_true]
    exact ⟨_, rfl⟩
  · simp only [scan, Bool.false_eq_true, if_false]
    rw [Option.not_isSome_iff_eq_none] at scan
    rw [← scan]
    exact ⟨v.up.sent, rfl⟩

theorem leftByScan_ne_nil (h : leftByScan v ≠ []) : v.fh.transit ≠ [] := by
  intro empty
  unfold leftByScan at h
  rw [empty] at h
  exact h (by split <;> rfl)

theorem sameLinks_formingUnits (v : State) : SameLinks v (formingUnits v) := by
  obtain ⟨sent, h⟩ := formingUnits_eq v
  rw [h]
  exact ⟨rfl, rfl, rfl, rfl, rfl, mapped_send (leaveQueue_rebases _), leftByScan_ne_nil⟩

@[simp] theorem leaveIfCensus_rebases (x : InSend) : (leaveIfCensus x).rebases = x.rebases := by
  unfold leaveIfCensus; split <;> rfl

theorem Awaits.ne_nil {ready later : List TransitEntry} {f : Frame} (h : Awaits s ready f later) : s.fh.transit ≠ [] := by
  rw [h.queue]
  simp

theorem sameLinks_withTransit {queue : List TransitEntry} (h : s.fh.transit ≠ []) : SameLinks s (withTransit queue s) :=
  ⟨rfl, rfl, rfl, rfl, rfl, fun x hx => ⟨x, hx, rfl⟩, fun _ => h⟩

/-! ### Out of the ring -/

/-- Both ports are OFF, with every item at its reset value, and nothing is queued or sent (R96, R98). -/
structure OutOfRing (t : State) : Prop where
  up : { t.up with sent := [] } = State.reset.up
  down : { t.down with sent := [] } = State.reset.down
  ring : inRing t.ctl.state = false
  bypass : t.ctl.bypassn = false
  sending : t.fh.inSend = none
  transit : t.fh.transit = []

theorem upFits_reset : UpFits false State.reset.up := by
  constructor <;> simp [State.reset, State.afterReset, readsSymbols]

theorem downFits_reset : DownFits false State.reset.down := by
  constructor <;> simp [State.reset, State.afterReset, readsSymbols]

theorem OutOfRing.fit (h : OutOfRing t) : PartsFit t := by
  obtain ⟨up, down, ring, bypass, sending, transit⟩ := h
  refine ⟨?_, ?_, bypass.trans ring.symm, by simp [ring], fun x hx => by simp [sending] at hx, by simp [transit]⟩
  · rw [ring]
    exact UpFits.withSent (p := { t.up with sent := [] }) (up ▸ upFits_reset) t.up.sent
  · rw [ring]
    exact DownFits.withSent (d := { t.down with sent := [] }) (down ▸ downFits_reset) t.down.sent

theorem outOfRing_enterHalted (cause : HaltCause) (u : State) : OutOfRing (enterHalted cause u) :=
  ⟨rfl, rfl, rfl, rfl, rfl, rfl⟩

theorem Restarted.outOfRing (h : Restarted s t) : OutOfRing t := by
  obtain ⟨cause, h⟩ := h.values
  rw [h]
  exact ⟨rfl, rfl, rfl, rfl, rfl, rfl⟩

theorem outOfRing_detached (out : LeaveOutcome) {f : SlotNo → Record → Option Record}
    (table : Rewritten f (detachedUnits out s) v) : OutOfRing (stopCensus (clearShadowUnit v)) := by
  rw [table.1]
  exact ⟨rfl, rfl, rfl, rfl, rfl, rfl⟩

/-! ### Moves of one port -/

section
variable {ring : Bool} {p : UpstreamPort} {d : DownstreamPort}

theorem UpFits.inRing (h : UpFits ring p) {l : LinkState} (link : p.link = l) (on : l ≠ .off) : ring = true := by
  by_contra out
  exact on (link ▸ h.off.2 (by simpa using out))

theorem DownFits.inRing (h : DownFits ring d) {l : LinkState} (link : d.link = l) (on : l ≠ .off) : ring = true := by
  by_contra out
  exact on (link ▸ h.off.2 (by simpa using out))

theorem UpFits.withFar (h : UpFits ring p) {far : Bool} (locked : far = true → p.receiveLock = true)
    (up : p.link = .up → far = true) : UpFits ring { p with farLock := far } :=
  ⟨h.off, h.lock, locked, up, h.offLock, h.offRun, h.owed, h.notOwed⟩

theorem DownFits.withFar (h : DownFits ring d) {far : Bool} (locked : far = true → d.receiveLock = true)
    (up : d.link = .up → far = true) : DownFits ring { d with farLock := far } :=
  ⟨h.off, h.lock, locked, up, h.offLock, h.credit⟩

/-- The upstream port of a station in the ring, seen beside its link. -/
theorem upFits_inRing (on : p.link ≠ .off) (lock : readsSymbols p.link = true → p.receiveLock = true)
    (far : p.farLock = true → p.receiveLock = true) (up : p.link = .up → p.farLock = true)
    (owed : p.link = .creditWait → p.advertisementOwed = true)
    (notOwed : p.link = .training → p.advertisementOwed = false) : UpFits true p :=
  ⟨by simp [on], lock, far, up, nofun, nofun, owed, fun h => notOwed (h.resolve_left on)⟩

theorem downFits_inRing (on : d.link ≠ .off) (lock : readsSymbols d.link = true → d.receiveLock = true)
    (far : d.farLock = true → d.receiveLock = true) (up : d.link = .up → d.farLock = true)
    (credit : d.link ≠ .up → d.credit = 0) : DownFits true d :=
  ⟨by simp [on], lock, far, up, nofun, credit⟩

end

theorem UpFits.move {ring : Bool} {p : UpstreamPort} (h : UpFits ring s.up) (move : UpMove s p) : UpFits ring p := by
  cases move with
  | farSeen =>
    refine h.withFar (fun far => ?_) fun up => by simp [h.up up]
    rw [Bool.or_eq_true] at far
    exact far.elim h.far h.lock
  | farSet locked => exact h.withFar (fun _ => locked) fun _ => rfl
  | farCleared below => exact h.withFar nofun fun up => absurd up below
  | unlocked training =>
    obtain rfl := h.inRing training (by simp)
    apply upFits_inRing <;> simp [training, readsSymbols, h.notOwed (.inr training)]
  | retrained waiting =>
    obtain rfl := h.inRing waiting (by simp)
    apply upFits_inRing <;> simp [readsSymbols]
  | locked training =>
    obtain rfl := h.inRing training (by simp)
    apply upFits_inRing <;> simp [readsSymbols]
  | rebased up =>
    obtain rfl := h.inRing up (by simp)
    apply upFits_inRing <;> simp [up, h.lock, readsSymbols]
  | advertised up =>
    obtain rfl := h.inRing up (by simp)
    apply upFits_inRing <;> simp [up, h.lock, h.up, readsSymbols]
  | opened waiting far =>
    obtain rfl := h.inRing waiting (by simp)
    apply upFits_inRing <;> simp [far, h.far, readsSymbols]
  | rejected up n bound =>
    obtain rfl := h.inRing up (by simp)
    apply upFits_inRing <;> simp [up, h.lock, h.up, readsSymbols]

theorem UpMove.stays_up {p : UpstreamPort} (move : UpMove s p) (up : s.up.link = .up) : p.link = .up := by
  cases move <;> simp_all

theorem DownFits.move {ring : Bool} {d : DownstreamPort} (h : DownFits ring s.down) (move : DownMove s d) :
    DownFits ring d := by
  cases move with
  | farSeen =>
    refine h.withFar (fun far => ?_) fun up => by simp [h.up up]
    rw [Bool.or_eq_true] at far
    exact far.elim h.far h.lock
  | farSet locked => exact h.withFar (fun _ => locked) fun _ => rfl
  | farCleared below => exact h.withFar nofun fun up => absurd up below
  | unlocked training =>
    obtain rfl := h.inRing training (by simp)
    apply downFits_inRing <;> simp [training, readsSymbols, h.credit]
  | locked training =>
    obtain rfl := h.inRing training (by simp)
    apply downFits_inRing <;> simp [readsSymbols]
  | credited up bound =>
    obtain rfl := h.inRing up (by simp)
    apply downFits_inRing <;> simp [up, h.lock, h.up, readsSymbols]
  | opened waiting =>
    obtain rfl := h.inRing waiting (by simp)
    apply downFits_inRing <;> simp [waiting, h.lock, readsSymbols]

theorem SendFits.move {d : DownstreamPort} {send : Option InSend} (h : SendFits s.down send) (move : DownMove s d) :
    SendFits d send := by
  intro x hx
  obtain ⟨reads, rebases⟩ := h x hx
  cases move <;> simp_all [readsSymbols]

/-! ### Ports that leave UP, and frames -/

/-- A port that trains has no link to show. -/
theorem upFits_training {p : UpstreamPort} (link : p.link = .training) (owed : p.advertisementOwed = false)
    (far : p.farLock = true → p.receiveLock = true) : UpFits true p :=
  upFits_inRing (by simp [link]) (by simp [link, readsSymbols]) far (by simp [link]) (by simp [link]) fun _ => owed

theorem downFits_training {d : DownstreamPort} (link : d.link = .training) (credit : d.credit = 0)
    (far : d.farLock = true → d.receiveLock = true) : DownFits true d :=
  downFits_inRing (by simp [link]) (by simp [link, readsSymbols]) far (by simp [link]) fun _ => credit

theorem PartsFit.lostUp (h : PartsFit s) {p : UpstreamPort} (up : s.up.link = .up) (link : p.link = .training)
    (owed : p.advertisementOwed = false)
    (far : (s.up.farLock = true → s.up.receiveLock = true) → p.farLock = true → p.receiveLock = true) :
    PartsFit (lostUp p s) := by
  have ring := h.up.inRing up (by simp)
  have fits : UpFits (inRing s.ctl.state) p := ring ▸ upFits_training link owed (far h.up.far)
  unfold Machine.lostUp
  simp only
  split
  · rename_i rebased
    refine ⟨fits.withSent _, ?_, h.bypass, h.configured, fun x hx => ?_, fun hq => absurd rfl hq⟩
    · change DownFits (inRing s.ctl.state) _
      rw [ring]
      have lock := h.down.lock (by simp [rebased, readsSymbols])
      exact downFits_inRing (fun e => nomatch e) (fun _ => lock) (fun _ => lock) (fun e => nomatch e) fun _ => rfl
    · obtain ⟨y, -, rfl⟩ := Option.map_eq_some_iff.1 hx
      exact ⟨rfl, fun _ => Nat.succ_pos _⟩
  · refine ⟨fits.withSent _, h.down, h.bypass, h.configured, fun x hx => ?_, fun hq => absurd rfl hq⟩
    obtain ⟨y, hy, rfl⟩ := Option.map_eq_some_iff.1 hx
    rw [leaveQueue_rebases]
    exact h.send y hy

theorem PartsFit.cutDown (h : PartsFit s) {d : DownstreamPort} (ring : inRing s.ctl.state = true)
    (link : d.link = .training) (credit : d.credit = 0) (far : d.farLock = true → d.receiveLock = true) :
    PartsFit (cutDown d s) := by
  have fits : DownFits (inRing s.ctl.state) d := ring ▸ downFits_training link credit far
  exact ⟨h.up, fits, h.bypass, h.configured, nofun, h.holding⟩

theorem sameLinks_flushTransit (s : State) : SameLinks s (flushTransit s) :=
  ⟨rfl, rfl, rfl, rfl, rfl, mapped_send (leaveQueue_rebases _), fun hq => absurd rfl hq⟩

theorem PartsFit.arrived (h : PartsFit s) (f : Frame) (up : s.up.link = .up) : PartsFit (goodFrame f s) := by
  have ring := h.up.inRing up (by simp)
  refine ⟨?_, h.down, h.bypass, h.configured, h.send, fun _ => up⟩
  exact ⟨h.up.off, h.up.lock, h.up.far, h.up.up, h.up.offLock, fun _ => rfl, h.up.owed, h.up.notOwed⟩

theorem PartsFit.sendBegun (h : PartsFit s) (f : Frame) (src : SendSource) (position : Nat) (can : canSend s = true) :
    PartsFit (beginSend f src position s) := by
  have up := ((canSend_iff s).1 can).1
  refine ⟨h.up, h.down, h.bypass, h.configured, fun x _ => ?_, h.holding⟩
  change readsSymbols s.down.link = true ∧ (s.down.link = .creditWait → _)
  simp [up, readsSymbols]

theorem PartsFit.departed (h : PartsFit s) (x : InSend) : PartsFit (departed x s) := by
  have credit : DownFits (inRing s.ctl.state) { s.down with credit := s.down.credit - 1 } :=
    ⟨h.down.off, h.down.lock, h.down.far, h.down.up, h.down.offLock, fun link => by simp [h.down.credit link]⟩
  unfold Machine.departed chargeCredit leaveAtDeparture
  split
  · exact ⟨h.up, credit.withSent _, h.bypass, h.configured, nofun, h.holding⟩
  · split
    · refine ⟨h.up.withSent _, credit.withSent _, h.bypass, h.configured, nofun, fun hq => h.holding fun empty => hq ?_⟩
      change s.fh.transit.drop 1 = []
      rw [empty]
      rfl
    · exact ⟨h.up, credit.withSent _, h.bypass, h.configured, nofun, h.holding⟩

theorem PartsFit.configured_move (h : PartsFit s) (c : Configuration) (unborn : s.ctl.state = .unconfigured) :
    PartsFit (acceptConfiguration c s) := by
  have out : inRing s.ctl.state = false := by rw [unborn]; rfl
  have upOff := h.up.off.2 out
  have downOff := h.down.off.2 out
  refine ⟨?_, ?_, rfl, fun _ => rfl, fun x hx => ?_, fun hq => ?_⟩
  · exact upFits_training rfl (h.up.notOwed (.inl upOff)) h.up.far
  · exact downFits_training rfl (h.down.credit (by simp [downOff])) h.down.far
  · have := (h.send x hx).1
    simp [downOff, readsSymbols] at this
  · have := h.holding hq
    simp [upOff] at this

theorem inRing_of_working (working : formingOrIsolated s.ctl.state = true) : inRing s.ctl.state = true := by
  cases hs : s.ctl.state <;> simp_all [formingOrIsolated, inRing]

/-! ### The agreement is kept -/

theorem PartsFit.move (h : PartsFit s) (m : Move s t) : PartsFit t := by
  cases m with
  | aside a => exact h.same a.sameLinks
  | halt cause u => exact (outOfRing_enterHalted _ _).fit
  | turn only sound each => exact h.same only.sameLinks
  | shadowed i identity a free allowed => exact h.same (tableOnly_writeRecord ..).sameLinks
  | stamp enters active limit => exact h.same enters.sameLinks
  | upPort m => exact ⟨h.up.move m, h.down, h.bypass, h.configured, h.send, fun hq => m.stays_up (h.holding hq)⟩
  | downPort m => exact ⟨h.up, h.down.move m, h.bypass, h.configured, h.send.move m, h.holding⟩
  | downTrained waiting link credit far => exact h.cutDown (h.down.inRing waiting (by simp)) link credit far
  | upLost up link owed far run => exact h.lostUp up link owed far
  | downLost up link credit far =>
    exact (h.cutDown (h.down.inRing up (by simp)) link credit far).same (sameLinks_flushTransit _)
  | shadowUnit m => exact ⟨h.up, h.down, h.bypass, h.configured, h.send, h.holding⟩
  | arrived f up room => exact h.arrived f up
  | takenOut a => exact h.same (sameLinks_withTransit a.ne_nil)
  | takenOn g a => exact h.same (sameLinks_withTransit a.ne_nil)
  | scanBegun a ballot allowed =>
    have taken := h.same (sameLinks_withTransit (queue := s.fh.transit) a.ne_nil)
    exact ⟨taken.up, taken.down, taken.bypass, taken.configured, taken.send, fun _ => taken.holding a.ne_nil⟩
  | scanMoved x running bound => exact ⟨h.up, h.down, h.bypass, h.configured, h.send, h.holding⟩
  | scanEnded g running =>
    exact ⟨h.up, h.down, h.bypass, h.configured, h.send, fun hq => h.holding fun empty => hq (by simp [readyHand, withScan, empty])⟩
  | queued f room allowed noBallot => exact ⟨h.up, h.down, h.bypass, h.configured, h.send, h.holding⟩
  | censusQueued f room working census => exact ⟨h.up, h.down, h.bypass, h.configured, h.send, h.holding⟩
  | ballotQueued i r room allowed held due clear => exact ⟨h.up, h.down, h.bypass, h.configured, h.send, h.holding⟩
  | sendBegun f src position can bound candidate => exact h.sendBegun f src position can
  | departed sending => exact h.departed _
  | keyAccepted k working above => exact ⟨h.up, h.down, h.bypass, h.configured, h.send, h.holding⟩
  | proposed top working room epoch best => exact ⟨h.up, h.down, h.bypass, h.configured, h.send, h.holding⟩
  | rosterOwed d working best => exact ⟨h.up, h.down, h.bypass, h.configured, h.send, h.holding⟩
  | retryTimed timer working => exact ⟨h.up, h.down, h.bypass, h.configured, h.send, h.holding⟩
  | unitsTicked => exact ⟨h.up, h.down, h.bypass, h.configured, h.send, h.holding⟩
  | @formed u v enters active room table =>
    have entered : SameLinks s u ∧ u.ctl = s.ctl := by
      rcases enters with rfl | enters
      · exact ⟨TableOnly.sameLinks rfl, rfl⟩
      · exact ⟨enters.sameLinks, by cases enters <;> rfl⟩
    have state : SameLinks u (withState .forming u) := sameLinks_withState (by simp [entered.2, active, inRing])
    have formed := h.same (entered.1.trans (state.trans (table.1.sameLinks.trans (sameLinks_formingUnits v))))
    exact ⟨formed.up, formed.down, formed.bypass, formed.configured, formed.send, formed.holding⟩
  | @formedBy k v active newer table =>
    have state : SameLinks s (withState .forming s) := sameLinks_withState (by simp [active, inRing])
    have formed := h.same (state.trans (table.1.sameLinks.trans (sameLinks_formingUnits v)))
    exact ⟨formed.up, formed.down, formed.bypass, formed.configured, formed.send, formed.holding⟩
  | @isolated v forming table =>
    have state : SameLinks s (isolatedUnits s) :=
      ⟨rfl, rfl, by simp [isolatedUnits, forming, inRing], rfl, rfl, mapped_send (leaveQueue_rebases _), id⟩
    have isolated := h.same (state.trans table.1.sameLinks)
    exact ⟨isolated.up, isolated.down, isolated.bypass, isolated.configured, isolated.send, isolated.holding⟩
  | detached out leaving table => exact (outOfRing_detached out table).fit
  | left active table =>
    have state : SameLinks s (leavingUnits s) :=
      ⟨rfl, rfl, by simp [leavingUnits, active, inRing], rfl, rfl, fun x hx => ⟨x, hx, rfl⟩, id⟩
    exact h.same (state.trans table.1.sameLinks)
  | @adopted epoch members u v working best queued only sound table =>
    have ring := inRing_of_working working
    have state : SameLinks s (decideFence v) := by
      rw [only]
      rcases queued with rfl | ⟨-, rfl⟩ <;>
        exact ⟨rfl, rfl, ring.symm, rfl, rfl, mapped_send leaveIfCensus_rebases, id⟩
    exact h.same state

theorem PartsFit.moves (h : PartsFit s) (m : Moves s t) : PartsFit t := by
  induction m with
  | refl => exact h
  | tail _ m ih => exact ih.move m

theorem PartsFit.departsBallot (h : PartsFit s) {x : InSend} {b : Ballot} {i : SlotNo} {r : Record}
    (d : DepartsBallot s t x b i r) : PartsFit t := by
  have away := h.departed x
  rw [d.out]
  exact ⟨away.up, away.down, away.bypass, away.configured, away.send, away.holding⟩

theorem PartsFit.hosted (h : PartsFit s) (x : HostPort) : PartsFit { s with host := x } :=
  h.same ⟨rfl, rfl, rfl, rfl, rfl, fun x hx => ⟨x, hx, rfl⟩, id⟩

theorem PartsFit.stationRun (h : PartsFit s) (m : StationRun s t) : PartsFit t := by
  cases m with
  | moves m => exact h.moves m
  | configured c fresh unborn out => exact out ▸ h.configured_move c unborn
  | ballot d => exact h.departsBallot d

theorem PartsFit.runs (h : PartsFit s) (m : Runs s t) : PartsFit t := by
  obtain ⟨before, after, u, run, rfl⟩ := m
  exact ((h.hosted before).stationRun run).hosted after

end

/-- Settles O54, move by move. -/
theorem linksKept : Obligations.LinksKept := by
  intro s t h stepped
  obtain ⟨pending, runs | restarted⟩ := step_leads stepped
  · have fit : PartsFit { s with pending := pending } :=
      ⟨h.parts.up, h.parts.down, h.parts.bypass, h.parts.configured, h.parts.send, h.parts.holding⟩
    exact (fit.runs runs).links
  · exact restarted.outOfRing.fit.links

end Sys2Proof.Machine
end

section
/-! PROOF. Every record keeps the marks, timers and causes of its kind and state, and stands in a state that the station
state admits (R14 to R16, R21, R25, R26, R62, R94). -/

namespace Sys2Proof.Machine

section
variable {s t u v w : State} {st : StationState} {r q : Record}

/-- A record fits its kind, its state and the station state. -/
structure RecordFits (st : StationState) (r : Record) : Prop where
  state : stateFits st r
  fields : FieldsFit r
  dues : ∀ d, r.due = some d → dueFits st r d

/-- Every record fits the station state. -/
def AllFit (s : State) : Prop := ∀ i r, s.record i = some r → RecordFits s.ctl.state r

theorem recordsFit_iff : RecordsFit s ↔ AllFit s :=
  forall_congr' fun _ => forall_congr' fun _ => forall_congr' fun _ =>
    ⟨fun ⟨state, fields, dues⟩ => ⟨state, fields, dues⟩, fun ⟨state, fields, dues⟩ => ⟨state, fields, dues⟩⟩

/-! ### What the station state admits -/

theorem dueAllowed_iff : dueAllowed st = true ↔ st = .active ∨ st = .leaving := by
  simp [dueAllowed]

theorem RecordFits.pending (h : RecordFits st r) (own : r.kind = .own) (hs : r.state = .pending) : st = .active := by
  simpa [stateFits, own, hs] using h.state

theorem RecordFits.open_own (h : RecordFits st r) (own : r.kind = .own) (hs : r.state ≠ .retired) :
    st = .active ∨ st = .forming := by
  have := h.state
  cases hr : r.state <;> simp_all [stateFits]

theorem RecordFits.shadow_notice (h : RecordFits st r) (shadow : r.kind = .shadow) : r.notice = none := by
  have := h.fields.notice
  cases hn : r.notice <;> simp_all

/-- A due other than a RELEASE is that of an own record that is not RETIRED; a RELEASE that of a RETIRED one (R21). -/
theorem RecordFits.due_retired (h : RecordFits st r) (hs : r.state ≠ .retired) (shadow : r.kind = .shadow) :
    r.due = none := by
  cases hd : r.due with
  | none => rfl
  | some d =>
    have := h.dues d hd
    cases d <;> simp_all [dueFits]

/-- A change that keeps kind, state and due, and no less of the notice. -/
theorem RecordFits.of_same (h : RecordFits st r) (fields : FieldsFit q) (kind : q.kind = r.kind)
    (state : q.state = r.state) (due : q.due = r.due) (notice : r.notice.isSome → q.notice.isSome) :
    RecordFits st q := by
  refine ⟨?_, fields, fun d hd => ?_⟩
  · have := h.state
    unfold stateFits at this ⊢
    rw [kind, state]
    split <;> simp_all
    tauto
  · have := h.dues d (due ▸ hd)
    unfold dueFits at this ⊢
    rw [kind, state]
    exact this

/-! ### Records by their state -/

theorem recordFits_pending (own : q.kind = .own) (hs : q.state = .pending) (fields : FieldsFit q)
    (due : q.due = some .ballot) : RecordFits .active q := by
  refine ⟨by simp [stateFits, own, hs], fields, fun d hd => ?_⟩
  obtain rfl : d = .ballot := Option.some.inj (hd.symm.trans due)
  exact ⟨rfl, own, hs⟩

theorem recordFits_waiting (own : q.kind = .own) (hs : q.state = .waiting) (fields : FieldsFit q) (due : q.due = none)
    (at' : st = .active ∨ st = .forming) : RecordFits st q :=
  ⟨by simpa [stateFits, own, hs] using at', fields, by simp [due]⟩

theorem recordFits_granted (own : q.kind = .own) (hs : q.state = .granted) (fields : FieldsFit q)
    (due : ∀ d, q.due = some d → ∃ c, d = .announce c) : RecordFits .active q := by
  refine ⟨by simp [stateFits, own, hs], fields, fun d hd => ?_⟩
  obtain ⟨c, rfl⟩ := due d hd
  exact ⟨rfl, own, hs⟩

/-- An own record that has retired and holds a mark. -/
theorem recordFits_retired (own : q.kind = .own) (hs : q.state = .retired) (fields : FieldsFit q)
    (at' : st ≠ .unconfigured) (held : q.due.isSome ∨ q.notice.isSome) (halted : st = .halted → q.notice.isSome)
    (due : ∀ d, q.due = some d → (∃ x, d = .release x) ∧ dueAllowed st = true) : RecordFits st q := by
  refine ⟨by simpa [stateFits, own, hs] using ⟨at', held, halted⟩, fields, fun d hd => ?_⟩
  obtain ⟨⟨x, rfl⟩, allowed⟩ := due d hd
  exact ⟨allowed, hs⟩

theorem retireOwn_due {out : RecOutcome} {reason : ReleaseReason} {n : Option Notice} (st : StationState) (r : Record) :
    (retireOwn st out reason n r).due =
      if r.state = .granted ∨ r.objected then dueIn st (.release reason) else none := by
  cases n <;> rfl

/-- The only due of a record that retires is a RELEASE, where dues are allowed (R25). -/
theorem retireOwn_release {out : RecOutcome} {reason : ReleaseReason} {n : Option Notice} {d : Due}
    (h : (retireOwn st out reason n r).due = some d) : (∃ x, d = .release x) ∧ dueAllowed st = true := by
  rw [retireOwn_due] at h
  unfold dueIn at h
  split at h
  · split at h
    · cases h
      exact ⟨⟨_, rfl⟩, ‹_›⟩
    · cases h
  · cases h

theorem newIssue_fits (fields : FieldsFit r) (own : r.kind = .own) (open' : r.state ≠ .retired) :
    RecordFits .active (newIssue r) :=
  recordFits_pending own rfl (fields.newIssue own open') rfl

theorem enterWaiting_fits (cause : WaitCause) (fields : FieldsFit r) (own : r.kind = .own) (open' : r.state ≠ .retired)
    (at' : st = .active ∨ st = .forming) : RecordFits st (enterWaiting cause r) := by
  refine recordFits_waiting (by simp [own]) ?_ (fields.enterWaiting cause own open') ?_ at' <;>
    unfold enterWaiting <;> split <;> rfl

/-! ### Turns -/

theorem RecordFits.woken (h : RecordFits st r) (hit : Range → Bool) (allowed : dueAllowed st = true) :
    RecordFits st (wakeRecord hit r) := by
  unfold wakeRecord
  split
  · rename_i own
    split
    · rename_i waiting
      have at' := h.open_own own.1 (by simp [waiting])
      obtain rfl : st = .active := by
        rcases at' with e | e
        · exact e
        · simp [e, dueAllowed] at allowed
      exact newIssue_fits h.fields own.1 (by simp [waiting])
    · rename_i pending
      exact h.of_same ⟨h.fields.untimed, h.fields.timed, h.fields.limit, h.fields.cause, h.fields.outcome,
        fun _ => ⟨own.1, pending⟩, h.fields.notice, h.fields.loss⟩ rfl rfl rfl id
    · exact h
  · exact h

theorem RecordFits.lapsed (h : RecordFits st r) (out : RecOutcome) (reason : ReleaseReason) (shadow : r.kind = .shadow)
    (held : (retireShadow st out reason r).due.isSome ∨ (retireShadow st out reason r).notice.isSome) :
    RecordFits st (retireShadow st out reason r) := by
  have notice : (retireShadow st out reason r).notice = none := h.shadow_notice shadow
  have owed : (retireShadow st out reason r).due.isSome := by simpa [notice] using held
  have release : ∀ d, (retireShadow st out reason r).due = some d → (∃ x, d = .release x) ∧ dueAllowed st = true := by
    intro d hd
    unfold retireShadow dueIn at hd
    simp only at hd
    split at hd
    · split at hd
      · cases hd
        exact ⟨⟨_, rfl⟩, ‹_›⟩
      · cases hd
    · cases hd
  obtain ⟨d, hd⟩ := Option.isSome_iff_exists.1 owed
  have waiting : r.state ≠ .waiting := by
    have := h.state
    intro e
    simp [stateFits, shadow, e] at this
  refine ⟨?_, h.fields.retireShadow shadow waiting, fun d hd => ?_⟩
  · have at' := dueAllowed_iff.1 (release d hd).2
    simpa [stateFits, retireShadow, shadow, hd] using ⟨at', owed⟩
  · obtain ⟨⟨x, rfl⟩, allowed⟩ := release d hd
    exact ⟨allowed, rfl⟩

theorem RecordFits.drained (h : RecordFits st r) (kept : r.state = .retired → r.due.isSome) :
    RecordFits st { r with notice := none } := by
  refine ⟨?_, h.fields.withoutNotice, h.dues⟩
  have := h.state
  by_cases retired : r.state = .retired
  · obtain ⟨d, hd⟩ := Option.isSome_iff_exists.1 (kept retired)
    have allowed : dueAllowed st = true := by
      have := h.dues d hd
      cases d <;> exact this.1
    have at' := dueAllowed_iff.1 allowed
    cases hk : r.kind <;> rcases at' with rfl | rfl <;> simp_all [stateFits]
  · cases hk : r.kind <;> cases hs : r.state <;> simp_all [stateFits]

theorem RecordFits.served (h : RecordFits st r)
    (kept : r.state = .retired → r.notice.isSome ∨ ∃ c, r.due = some (.announce c)) :
    RecordFits st { r with due := none } := by
  refine ⟨?_, h.fields.withDue none, nofun⟩
  have := h.state
  by_cases retired : r.state = .retired
  · have notice : r.notice.isSome := by
      rcases kept retired with n | ⟨c, hc⟩
      · exact n
      · have := (h.dues _ hc).2.2
        simp [retired] at this
    have own := h.fields.notice notice
    simp_all [stateFits]
  · cases hk : r.kind <;> cases hs : r.state <;> simp_all [stateFits]

theorem RecordFits.refreshed (h : RecordFits st r) (term : Word16) (shadow : r.kind = .shadow) (open' : r.state ≠ .retired)
    (allowed : dueAllowed st = true) : RecordFits st (refreshShadow term r) := by
  have state : r.state = .live ∨ r.state = .orphaned := by
    have := h.state
    cases hs : r.state <;> simp_all [stateFits]
  refine ⟨?_, h.fields.refreshShadow term shadow state, fun d hd => ?_⟩
  · rcases dueAllowed_iff.1 allowed with rfl | rfl <;> simp [stateFits, refreshShadow, shadow]
  · have none' : (refreshShadow term r).due = none := h.due_retired open' shadow
    simp [none'] at hd

/-- A tick counts the timers of an own record down, and can set its notice (R32, R49). -/
theorem tickOwn_eq (warning : Word16) (r : Record) : ∃ timer limit notice,
    tickOwn warning r = { r with mainTimer := timer, waitLimit := limit, notice := notice } ∧
      timer.isSome = r.mainTimer.isSome ∧ (r.notice.isSome → notice.isSome) := by
  unfold tickOwn
  split
  · simp only
    split
    · rename_i timer running
      split
      · exact ⟨_, _, _, rfl, by simp, fun _ => rfl⟩
      · exact ⟨_, _, _, rfl, by simp, id⟩
    · exact ⟨_, _, _, rfl, by simp, id⟩
  · exact ⟨_, _, _, rfl, rfl, id⟩

theorem RecordFits.tickedOwn (h : RecordFits st r) (warning : Word16) : RecordFits st (tickOwn warning r) := by
  have fields := h.fields.tickOwn warning
  obtain ⟨timer, limit, notice, same, -, kept⟩ := tickOwn_eq warning r
  rw [same] at fields ⊢
  exact h.of_same fields rfl rfl rfl kept

theorem RecordFits.turn (h : RecordFits st r) (turn : Turn st r q) : RecordFits st q := by
  cases turn with
  | same => exact h
  | woken hit allowed => exact h.woken hit allowed
  | retired out reason notice k own open' bound held =>
    have at' := h.open_own own open'
    have fields : FieldsFit { r with lossCount := k } := h.fields.withLossCount (bound.trans h.fields.loss)
    refine recordFits_retired (by simp [own]) (retireOwn_state ..) (fields.retireOwn own) ?_ held ?_ fun d hd =>
      retireOwn_release hd
    · rcases at' with e | e <;> simp [e]
    · rcases at' with e | e <;> simp [e]
  | lapsed out reason shadow open' held => exact h.lapsed out reason shadow held
  | reissued k own pending timed bound =>
    obtain rfl := h.pending own pending
    exact newIssue_fits (h.fields.withLossCount bound) own (by simp [pending])
  | granted term own pending timed =>
    obtain rfl := h.pending own pending
    have fields : FieldsFit { r with lossCount := 0, mainTimer := none } :=
      (h.fields.withLossCount (Nat.zero_le _)).unTimed pending
    refine recordFits_granted own rfl (fields.grantRecord term own (by simp [pending])) fun d hd => ?_
    exact ⟨.grant, (Option.some.inj hd).symm⟩
  | waits own pending timed =>
    have fields : FieldsFit { r with lossCount := 0, mainTimer := none } :=
      (h.fields.withLossCount (Nat.zero_le _)).unTimed pending
    exact enterWaiting_fits .remote fields own (by simp [pending]) (.inl (h.pending own pending))
  | blocked due =>
    obtain ⟨allowed, own, pending⟩ := h.dues _ due
    exact enterWaiting_fits .localScan h.fields own (by simp [pending]) (.inl (h.pending own pending))
  | renewed term active own held =>
    obtain rfl := active
    refine recordFits_granted own held ((h.fields.withTimer (.inr held) term).withDue _) fun d hd => ?_
    exact ⟨.renew, (Option.some.inj hd).symm⟩
  | objected =>
    exact h.of_same ⟨h.fields.untimed, h.fields.timed, h.fields.limit, h.fields.cause, h.fields.outcome, h.fields.seen,
      h.fields.notice, h.fields.loss⟩ rfl rfl rfl id
  | drained kept => exact h.drained kept
  | served due kept => exact h.served kept
  | refreshed term shadow open' allowed => exact h.refreshed term shadow open' allowed
  | tickedOwn warning => exact h.tickedOwn warning
  | tickedShadow =>
    refine h.of_same h.fields.tickShadow (tickShadow_kind _) ?_ ?_ ?_ <;> unfold tickShadow <;> split <;> simp

/-! ### Entries to the station states -/

/-- A record whose due is cleared is kept unless it is RETIRED and holds no notice (R22, R26). -/
theorem clearDue_eq_some (h : clearDue r = some q) :
    q = { r with due := none } ∧ (r.state = .retired → r.notice.isSome) := by
  obtain ⟨rfl, kept⟩ := eq_of_keepUnlessDone h
  exact ⟨rfl, fun retired => by simpa [retired, Option.ne_none_iff_isSome] using kept⟩

/-- A record with nothing due fits by its state and its fields. -/
theorem recordFits_idle (state : stateFits st q) (fields : FieldsFit q) (due : q.due = none) : RecordFits st q :=
  ⟨state, fields, by simp [due]⟩

/-- Where nothing is due, an own record is RETIRED with its notice. -/
theorem recordFits_noticed (own : q.kind = .own) (hs : q.state = .retired) (fields : FieldsFit q)
    (at' : st ≠ .unconfigured) (due : q.due = none) (notice : q.notice.isSome) : RecordFits st q :=
  recordFits_retired own hs fields at' (.inr notice) (fun _ => notice) (by simp [due])

theorem RecordFits.own_state (h : RecordFits st r) (own : r.kind = .own) :
    r.state = .pending ∨ r.state = .waiting ∨ r.state = .granted ∨ r.state = .retired := by
  have := h.state
  cases hs : r.state <;> simp_all [stateFits]

theorem RecordFits.own_retired (h : RecordFits st r) (own : r.kind = .own) (notGranted : r.state ≠ .granted)
    (noClaim : ¬ (r.state = .pending ∨ r.state = .waiting)) : r.state = .retired := by
  obtain hs | hs | hs | hs := h.own_state own
  · exact absurd (.inl hs) noClaim
  · exact absurd (.inr hs) noClaim
  · exact absurd hs notGranted
  · exact hs

theorem RecordFits.shadow_state (h : RecordFits st r) (shadow : r.kind = .shadow) :
    r.state = .live ∨ r.state = .orphaned ∨ r.state = .retired := by
  have := h.state
  cases hs : r.state <;> simp_all [stateFits]

/-- A shadow that outlives the clearing of its due is not RETIRED. -/
theorem RecordFits.shadow_cleared (h : RecordFits st r) (shadow : r.kind = .shadow)
    (kept : r.state = .retired → r.notice.isSome) : r.state ≠ .retired := by
  intro retired
  have := kept retired
  simp [h.shadow_notice shadow] at this

theorem RecordFits.formed (h : RecordFits .active r) (hq : clearDue (formingOwn r) = some q) : RecordFits .forming q := by
  have fields := h.fields.formingOwn.clearDue hq
  obtain ⟨rfl, kept⟩ := clearDue_eq_some hq
  cases kind : r.kind with
  | own =>
    have own : ({ formingOwn r with due := none } : Record).kind = .own := (formingOwn_kind r).trans kind
    obtain hs | hs | hs | hs := h.own_state kind
    · have same : formingOwn r = enterWaiting .epoch r := by simp [formingOwn, kind, hs]
      rw [same] at fields own ⊢
      refine recordFits_waiting own ?_ fields rfl (.inr rfl)
      unfold enterWaiting
      split <;> rfl
    all_goals have same : formingOwn r = { r with releaseSeen := false } := by simp [formingOwn, kind, hs]
    all_goals rw [same] at fields own kept ⊢
    · exact recordFits_waiting own hs fields rfl (.inr rfl)
    · exact recordFits_idle (by simp [stateFits, kind, hs]) fields rfl
    · exact recordFits_noticed own hs fields (by simp) rfl (kept hs)
  | shadow =>
    have same : formingOwn r = r := by simp [formingOwn, kind]
    rw [same] at fields kept ⊢
    refine recordFits_idle ?_ fields rfl
    obtain hs | hs | hs := h.shadow_state kind
    · simp [stateFits, kind, hs]
    · simp [stateFits, kind, hs]
    · exact absurd hs (h.shadow_cleared kind kept)

/-- What outlives the entries to ISOLATED and DETACHED is an own record, its due cleared. -/
theorem dropped_eq_some {f : Record → Record} (h : (clearDue r).bind (fun q => dropShadow (f q)) = some q) :
    q = f { r with due := none } ∧ q.kind ≠ .shadow ∧ (r.state = .retired → r.notice.isSome) := by
  obtain ⟨x, hx, hq⟩ := Option.bind_eq_some_iff.1 h
  obtain ⟨rfl, kept⟩ := clearDue_eq_some hx
  have own := dropShadow_eq hq
  refine ⟨own, fun shadow => ?_, kept⟩
  unfold dropShadow at hq
  rw [if_pos (own ▸ shadow)] at hq
  cases hq

theorem RecordFits.isolated (h : RecordFits .forming r)
    (hq : (clearDue r).bind (fun q => dropShadow (isolateOwn q)) = some q) : RecordFits .isolated q := by
  obtain ⟨rfl, notShadow, kept⟩ := dropped_eq_some hq
  have fields := (h.fields.withDue none).isolateOwn
  have kind : r.kind = .own := by
    cases hk : r.kind with
    | own => rfl
    | shadow => exact absurd (by simp [hk]) notShadow
  have own : (isolateOwn { r with due := none }).kind = .own := (isolateOwn_kind _).trans kind
  unfold isolateOwn at fields own ⊢
  simp only [kind, if_true] at fields own ⊢
  split
  · rename_i granted
    rw [if_pos granted] at fields own
    refine recordFits_noticed own (retireOwn_state ..) fields (by simp) ?_ rfl
    simp [retireOwn_due, dueIn, dueAllowed]
  · rename_i other
    rw [if_neg other] at fields own
    split
    · rename_i claim
      rw [if_pos claim] at fields own
      refine recordFits_noticed own (retireOwn_state ..) fields (by simp) ?_ rfl
      simp [retireOwn_due, dueIn, dueAllowed]
    · rename_i noClaim
      rw [if_neg noClaim] at fields own
      have retired := h.own_retired kind other noClaim
      exact recordFits_noticed rfl retired fields (by simp) rfl (kept retired)

theorem RecordFits.detached (h : RecordFits .leaving r) (hq : (clearDue r).bind dropShadow = some q) :
    RecordFits .detached q := by
  obtain ⟨rfl, notShadow, kept⟩ := dropped_eq_some (f := id) hq
  have kind : r.kind = .own := by
    cases hk : r.kind with
    | own => rfl
    | shadow => exact absurd hk notShadow
  have retired : r.state = .retired := by
    by_contra open'
    rcases h.open_own kind open' with e | e <;> cases e
  exact recordFits_noticed kind retired (h.fields.withDue none) (by simp) rfl (kept retired)

theorem RecordFits.left (h : RecordFits .active r) : RecordFits .leaving (leaveRecord r) := by
  have fields := h.fields.leaveRecord
  have retire : ∀ (out : RecOutcome) (reason : ReleaseReason) (n : Notice), r.kind = .own →
      FieldsFit (retireOwn .leaving out reason (some n) r) → RecordFits .leaving (retireOwn .leaving out reason (some n) r) :=
    fun out reason n own fields => recordFits_retired ((retireOwn_kind ..).trans own) (retireOwn_state ..) fields
      (by simp) (.inr rfl) (fun _ => rfl) fun d hd => retireOwn_release hd
  unfold leaveRecord at fields ⊢
  split
  · rename_i kind
    rw [if_pos kind] at fields
    split
    · rename_i granted
      rw [if_pos granted] at fields
      exact retire _ _ _ kind fields
    · rename_i other
      rw [if_neg other] at fields
      split
      · rename_i claim
        rw [if_pos claim] at fields
        exact retire _ _ _ kind fields
      · rename_i noClaim
        have retired := h.own_retired kind other noClaim
        have state := h.state
        refine ⟨by simp_all [stateFits], h.fields, fun d hd => ?_⟩
        have due := h.dues d hd
        cases d <;> simp_all [dueFits, dueAllowed]
  · rename_i kind
    have shadow : r.kind = .shadow := by cases hk : r.kind <;> simp_all
    have state := h.state
    refine ⟨?_, h.fields, fun d hd => ?_⟩
    · obtain hs | hs | hs := h.shadow_state shadow <;> simp_all [stateFits]
    · have due := h.dues d hd
      cases d <;> simp_all [dueFits, dueAllowed]

theorem RecordFits.adopted (h : RecordFits st r) (working : formingOrIsolated st = true) (u : State) (epoch : Word32)
    (members : List StationId) (i : SlotNo) : RecordFits .active (adoptRecord u epoch members i r) := by
  have quiet : r.due = none := by
    cases hd : r.due with
    | none => rfl
    | some d =>
      have := h.dues d hd
      cases d <;> cases hst : st <;> simp_all [dueFits, dueAllowed, formingOrIsolated]
  have fields := (h.fields.adoptOwn u.table epoch u.stationId i).adoptShadow u.census.roster members u.ctl.config.orphanHold
  unfold adoptRecord at ⊢
  cases kind : r.kind with
  | own =>
    have own : (adoptOwn u.table epoch u.stationId i r).kind = .own := (adoptOwn_kind ..).trans kind
    have same : adoptShadow u.census.roster members u.ctl.config.orphanHold (adoptOwn u.table epoch u.stationId i r) =
        adoptOwn u.table epoch u.stationId i r := by simp [adoptShadow, isLive, kind]
    rw [same] at fields ⊢
    obtain hs | hs | hs | hs := h.own_state kind
    · have := h.pending kind hs
      rw [this] at working
      cases working
    · unfold adoptOwn at fields own ⊢
      simp only [kind, hs] at fields own ⊢
      exact recordFits_pending kind rfl fields rfl
    · unfold adoptOwn at fields own ⊢
      simp only [kind, hs] at fields own ⊢
      exact recordFits_granted rfl rfl fields fun d hd => ⟨.reannounce, (Option.some.inj hd).symm⟩
    · have unchanged : adoptOwn u.table epoch u.stationId i r = r := by simp [adoptOwn, kind, hs]
      rw [unchanged]
      have state : st ≠ .unconfigured ∧ r.notice.isSome ∧ (st = .halted → r.notice.isSome) := by
        simpa [stateFits, kind, hs, quiet] using h.state
      exact recordFits_noticed kind hs h.fields (by simp) quiet state.2.1
  | shadow =>
    have unchanged : adoptOwn u.table epoch u.stationId i r = r := by simp [adoptOwn, kind]
    rw [unchanged] at fields ⊢
    unfold adoptShadow at fields ⊢
    split
    · rename_i orphan
      rw [if_pos orphan] at fields
      exact recordFits_idle (by simp [stateFits, kind]) fields quiet
    · refine recordFits_idle ?_ h.fields quiet
      have state := h.state
      obtain hs | hs | hs := h.shadow_state kind <;> simp_all [stateFits]

theorem haltSlot_fits {sl : Slot} (fields : ∀ r, sl.content = some r → FieldsFit r) (hq : (haltSlot sl).content = some q) :
    RecordFits .halted q := by
  unfold haltSlot at hq
  split at hq
  · rename_i r sound content
    split at hq
    · rename_i kept
      cases hq
      exact recordFits_noticed kept.1 kept.2.1 ((fields r content).withDue none) (by simp) rfl kept.2.2
    · cases hq
  · cases hq

/-! ### Every record -/

theorem AllFit.same (h : AllFit s) (table : t.table = s.table) (state : t.ctl.state = s.ctl.state) : AllFit t := by
  intro i r hr
  rw [state]
  exact h i r (by simpa only [State.record, table] using hr)

theorem AllFit.rewritten {f : SlotNo → Record → Option Record} (h : AllFit s) (table : Rewritten f w v)
    (start : w.table = s.table) (fits : ∀ i r q, RecordFits s.ctl.state r → f i r = some q → RecordFits v.ctl.state q) :
    AllFit v := by
  intro i q hq
  have before : w.record i = s.record i := by simp only [State.record, start]
  rw [table.2.2, before] at hq
  obtain ⟨r, hr, hq⟩ := Option.bind_eq_some_iff.1 hq
  exact fits i r q (h i r hr) hq

theorem newClaim_fits (stamp : Stamp) (mode : Mode) (range : Range) (tag : Word16) (noWait : Bool) (limit : Word16) :
    RecordFits .active (newClaim stamp mode range tag noWait limit) :=
  recordFits_pending rfl rfl (fieldsFit_newClaim ..) rfl

theorem AllFit.enters (h : AllFit s) (enters : Enters s u) (active : s.ctl.state = .active) : AllFit u := by
  cases enters with
  | refused => exact h.same rfl rfl
  | entered i c free quota mode range tag noWait limit claim =>
    intro j q hq
    change RecordFits s.ctl.state q
    rw [record_writeRecord] at hq
    split at hq
    · cases hq
      rw [active]
      have fits := newClaim_fits (nextStamp s) mode range tag noWait limit
      rcases claim with rfl | rfl
      · exact fits
      · exact enterWaiting_fits .localScan fits.fields rfl (by simp [newClaim]) (.inl rfl)
    · exact h j q hq

theorem AllFit.unconfigured (h : AllFit s) (unborn : s.ctl.state = .unconfigured) (i : SlotNo) : s.record i = none := by
  cases hr : s.record i with
  | none => rfl
  | some r =>
    have := (h i r hr).state
    unfold stateFits at this
    rw [unborn] at this
    split at this <;> simp_all

theorem AllFit.shadowed (h : AllFit s) (i : SlotNo) (identity : Stamp) (a : Announce)
    (allowed : dueAllowed s.ctl.state = true) : AllFit (writeRecord i (newShadow identity a) s) := by
  intro j q hq
  change RecordFits s.ctl.state q
  rw [record_writeRecord] at hq
  split at hq
  · cases hq
    refine recordFits_idle ?_ (fieldsFit_newShadow identity a) rfl
    rcases dueAllowed_iff.1 allowed with e | e <;> simp [stateFits, newShadow, e]
  · exact h j q hq

theorem AllFit.turn (h : AllFit s) (only : TableOnly s t)
    (each : ∀ i q, t.record i = some q → ∃ r, s.record i = some r ∧ Turn s.ctl.state r q) : AllFit t := by
  intro i q hq
  obtain ⟨r, hr, turn⟩ := each i q hq
  rw [only]
  exact (h i r hr).turn turn

theorem Partial.halted_fits (h : Partial s u) (fit : RecordsFit s) (cause : HaltCause) : AllFit (enterHalted cause u) := by
  intro i q hq
  change RecordFits .halted q
  refine haltSlot_fits (sl := u.table.get i) (fun r hr => h.fields fit i r hr) ?_
  simpa [State.record, enterHalted, markFault, stopCensus, clearShadowUnit] using hq

theorem AllFit.formed (h : AllFit u) (active : u.ctl.state = .active)
    (table : Rewritten (fun _ r => clearDue (formingOwn r)) (withState .forming u) v) : AllFit v := by
  refine h.rewritten table rfl fun i r q fits hq => ?_
  have state : v.ctl.state = .forming := by rw [table.1]; rfl
  rw [state]
  rw [active] at fits
  exact fits.formed hq

theorem AllFit.move (h : AllFit s) (m : Move s t) : AllFit t := by
  have fit : RecordsFit s := recordsFit_iff.2 h
  cases m with
  | aside a => exact h.same (by rw [a.only]) (by rw [a.only])
  | halt cause u => exact u.halted_fits fit cause
  | turn only sound each => exact h.turn only each
  | shadowed i identity a free allowed => exact h.shadowed i identity a allowed
  | stamp enters active limit => exact h.enters enters active
  | upPort m => exact h.same rfl rfl
  | downPort m => exact h.same rfl rfl
  | downTrained waiting link credit far => exact h.same rfl rfl
  | upLost up link owed far run =>
    unfold lostUp
    simp only
    split <;> exact h.same rfl rfl
  | downLost up link credit far => exact h.same rfl rfl
  | shadowUnit m => exact h.same rfl rfl
  | arrived f up room => exact h.same rfl rfl
  | takenOut a => exact h.same rfl rfl
  | takenOn g a => exact h.same rfl rfl
  | scanBegun a ballot allowed => exact h.same rfl rfl
  | scanMoved x running bound => exact h.same rfl rfl
  | scanEnded g running => exact h.same rfl rfl
  | queued f room allowed noBallot => exact h.same rfl rfl
  | censusQueued f room working census => exact h.same rfl rfl
  | ballotQueued i r room allowed held due clear =>
    have served : AllFit (writeRecord i { r with due := none } s) := by
      intro j q hq
      change RecordFits s.ctl.state q
      rw [record_writeRecord] at hq
      split at hq
      · cases hq
        have pending := ((h i r held).dues _ due).2.2
        exact (h i r held).served fun retired => by simp [pending] at retired
      · exact h j q hq
    exact served.same rfl rfl
  | sendBegun f src position can bound candidate => exact h.same rfl rfl
  | departed sending => exact h.same (departed_table ..) (by rw [departed_ctl])
  | keyAccepted k working above => exact h.same rfl rfl
  | proposed top working room epoch best => exact h.same rfl rfl
  | rosterOwed d working best => exact h.same rfl rfl
  | retryTimed timer working => exact h.same rfl rfl
  | unitsTicked => exact h.same rfl rfl
  | @formed u v enters active room table =>
    have entered : AllFit u ∧ u.ctl = s.ctl := by
      rcases enters with rfl | enters
      · exact ⟨h, rfl⟩
      · exact ⟨h.enters enters active, by cases enters <;> rfl⟩
    obtain ⟨sent, units⟩ := formingUnits_eq v
    rw [units]
    exact (entered.1.formed (by rw [entered.2, active]) table).same rfl rfl
  | @formedBy k v active newer table =>
    obtain ⟨sent, units⟩ := formingUnits_eq v
    rw [units]
    exact (h.formed active table).same rfl rfl
  | @isolated v forming table =>
    have fits : AllFit v := by
      refine h.rewritten table rfl fun i r q fits hq => ?_
      have state : v.ctl.state = .isolated := by rw [table.1]; rfl
      rw [state]
      rw [forming] at fits
      exact fits.isolated hq
    exact fits.same rfl rfl
  | @detached out v leaving table =>
    have fits : AllFit v := by
      refine h.rewritten table rfl fun i r q fits hq => ?_
      have state : v.ctl.state = .detached := by rw [table.1]; rfl
      rw [state]
      rw [leaving] at fits
      exact fits.detached hq
    exact fits.same rfl rfl
  | left active table =>
    refine h.rewritten table rfl fun i r q fits hq => ?_
    cases hq
    have state : t.ctl.state = .leaving := by rw [table.1]; rfl
    rw [state]
    rw [active] at fits
    exact fits.left
  | @adopted epoch members u v working best queued only sound table =>
    have state : v.ctl.state = .active := by rw [only]; rfl
    intro i q hq
    change RecordFits v.ctl.state q
    rw [state]
    have hq : v.record i = some q := hq
    rw [table] at hq
    obtain ⟨r, hr, rfl⟩ := Option.map_eq_some_iff.1 hq
    exact (h i r hr).adopted working s epoch members i

theorem AllFit.configured (h : AllFit s) (c : Configuration) (unborn : s.ctl.state = .unconfigured) :
    AllFit (acceptConfiguration c s) := by
  intro i q hq
  have none' := h.unconfigured unborn i
  have hq : s.record i = some q := hq
  rw [none'] at hq
  cases hq

theorem AllFit.moves (h : AllFit s) (m : Moves s t) : AllFit t := by
  induction m with
  | refl => exact h
  | tail _ m ih => exact ih.move m

theorem AllFit.restarted (h : Restarted s t) : AllFit t := by
  obtain ⟨cause, h⟩ := h.values
  intro i r hr
  rw [h] at hr
  simp [State.record, State.afterReset, Slot.free] at hr

theorem AllFit.departsBallot (h : AllFit s) {x : InSend} {b : Ballot} {i : SlotNo} {r : Record}
    (d : DepartsBallot s t x b i r) : AllFit t := by
  have ctl : t.ctl = s.ctl := by rw [d.out]; exact departed_ctl x s
  intro j q hq
  rw [ctl]
  have hq : (writeRecord i { r with mainTimer := some (s.ctl.config.ballotLimit.setWidth 16) }
      (countDeparture (departed x s))).record j = some q := d.out ▸ hq
  rw [record_writeRecord] at hq
  split at hq
  · cases hq
    have fits := h i r d.held
    exact fits.of_same (fits.fields.withTimer (.inl d.pending) _) rfl rfl rfl id
  · have hq : (departed x s).record j = some q := hq
    rw [departed_record] at hq
    exact h j q hq

theorem AllFit.stationRun (h : AllFit s) (m : StationRun s t) : AllFit t := by
  cases m with
  | moves m => exact h.moves m
  | configured c fresh unborn out => exact out ▸ h.configured c unborn
  | ballot d => exact h.departsBallot d

theorem AllFit.runs (h : AllFit s) (m : Runs s t) : AllFit t := by
  obtain ⟨before, after, u, run, rfl⟩ := m
  have start : AllFit { s with host := before } := h.same rfl rfl
  exact (start.stationRun run).same rfl rfl

end

/-- Settles O56, move by move. -/
theorem recordsKept : Obligations.RecordsKept := by
  intro s t h stepped
  obtain ⟨pending, runs | restarted⟩ := step_leads stepped
  · have fit : AllFit { s with pending := pending } := (recordsFit_iff.1 h).same rfl rfl
    exact recordsFit_iff.2 (fit.runs runs)
  · exact recordsFit_iff.2 (AllFit.restarted restarted)

end Sys2Proof.Machine
end

section
/-! PROOF. The transit queue keeps its order, a frame is in hand exactly while a scan runs, and a frame in send is the oldest
of its queue (R63, R64, R113, R114, R128, R130). -/

namespace Sys2Proof.Machine

section
variable {s t u v w : State} {queue ready later : List TransitEntry} {hand : Option Frame} {f g : Frame}

/-! ### The order of the transit queue -/

/-- Ready frames, the frame in hand if there is one, and awaiting frames (R113, R114). -/
def Stands (queue : List TransitEntry) (hand : Option Frame) : Prop :=
  ∃ ready later, (∀ e ∈ ready, e.cond = .ready) ∧ (∀ e ∈ later, e.cond = .awaiting) ∧
    queue = ready ++ ((hand.map fun f => { frame := f, cond := .inHand }).toList ++ later)

theorem ordered_of_awaiting (h : ∀ e ∈ later, e.cond = .awaiting) : ordered later = true := by
  cases later with
  | nil => rfl
  | cons e es => simp_all [ordered]

theorem ordered_append (before : ∀ e ∈ ready, e.cond = .ready) : ordered (ready ++ queue) = ordered queue := by
  induction ready with
  | nil => rfl
  | cons e es ih =>
    rw [List.cons_append, ordered, before e (by simp)]
    exact ih fun x hx => before x (by simp [hx])

theorem Stands.ordered (h : Stands queue hand) : ordered queue = true := by
  obtain ⟨ready, later, before, after, rfl⟩ := h
  rw [ordered_append before]
  cases hand with
  | none => exact ordered_of_awaiting after
  | some f => simp_all [Machine.ordered]

theorem stands_of_ordered (h : ordered queue = true) : ∃ hand, Stands queue hand := by
  induction queue with
  | nil => exact ⟨none, [], [], by simp, by simp, rfl⟩
  | cons e es ih =>
    obtain ⟨f, cond⟩ := e
    cases cond with
    | ready =>
      obtain ⟨hand, ready, later, before, after, rfl⟩ := ih h
      exact ⟨hand, { frame := f, cond := .ready } :: ready, later, by simpa using before, after, rfl⟩
    | awaiting => exact ⟨none, [], _, by simp, by simpa [ordered] using h, rfl⟩
    | inHand => exact ⟨some f, [], es, by simp, by simpa [ordered] using h, rfl⟩

theorem Stands.find (h : Stands queue hand) : (queue.find? fun e => e.cond == .inHand).map (·.frame) = hand := by
  obtain ⟨ready, later, before, after, rfl⟩ := h
  have noReady := find_inHand_none (l := ready) fun e he => by simp [before e he]
  have noLater := find_inHand_none (l := later) fun e he => by simp [after e he]
  rw [List.find?_append, noReady]
  cases hand with
  | none => simp [noLater]
  | some f => simp

theorem stands_nil : Stands [] none := ⟨[], [], by simp, by simp, rfl⟩

theorem stands_of_ready_awaiting (before : ∀ e ∈ ready, e.cond = .ready) (after : ∀ e ∈ later, e.cond = .awaiting) :
    Stands (ready ++ later) none := ⟨ready, later, before, after, rfl⟩

/-- A frame that arrives stands behind the others (R113). -/
theorem Stands.arrived (h : Stands queue hand) (f : Frame) :
    Stands (queue ++ [{ frame := f, cond := .awaiting }]) hand := by
  obtain ⟨ready, later, before, after, rfl⟩ := h
  refine ⟨ready, later ++ [{ frame := f, cond := .awaiting }], before, fun e he => ?_, by simp⟩
  rcases List.mem_append.1 he with he | he
  · exact after e he
  · rw [List.mem_singleton.1 he]

/-- The oldest frame, when it is ready, leaves (R130). -/
theorem Stands.dropped (h : Stands queue hand) (head : queue.head? = some { frame := f, cond := .ready }) :
    Stands (queue.drop 1) hand := by
  obtain ⟨ready, later, before, after, rfl⟩ := h
  cases ready with
  | nil =>
    cases hand with
    | none =>
      have := after { frame := f, cond := .ready } (List.mem_of_head? (by simpa using head))
      cases this
    | some g => simp at head
  | cons e es => exact ⟨es, later, fun x hx => before x (by simp [hx]), after, rfl⟩

/-- In an ordered queue everything behind an awaiting frame is awaiting, and nothing is in hand. -/
theorem Stands.awaits (h : Stands queue hand) (before : ∀ e ∈ ready, e.cond = .ready)
    (hq : queue = ready ++ { frame := f, cond := .awaiting } :: later) (after : ∀ e ∈ later, e.cond ≠ .inHand) :
    hand = none ∧ ∀ e ∈ later, e.cond = .awaiting := by
  have order := h.ordered
  rw [hq, ordered_append before] at order
  refine ⟨?_, by simpa [Machine.ordered] using order⟩
  rw [← h.find, hq, List.find?_append, find_inHand_none fun e he => by simp [before e he]]
  simpa using after

/-- The frame in hand is marked ready (R120). -/
theorem Stands.readied (h : Stands queue hand) (g : Frame) :
    Stands (queue.map fun e => if e.cond = .inHand then { frame := { g with hop := g.hop + 1 }, cond := .ready } else e)
      none := by
  obtain ⟨ready, later, before, after, rfl⟩ := h
  have noReady := map_ready_eq_self (queue := ready) (fun e he => by simp [before e he]) g
  have noLater := map_ready_eq_self (queue := later) (fun e he => by simp [after e he]) g
  simp only [List.map_append, noReady, noLater]
  cases hand with
  | none => exact ⟨ready, later, before, after, rfl⟩
  | some f =>
    refine ⟨ready ++ [{ frame := { g with hop := g.hop + 1 }, cond := .ready }], later, fun e he => ?_, after, by simp⟩
    rcases List.mem_append.1 he with he | he
    · exact before e he
    · rw [List.mem_singleton.1 he]

/-- The frame in hand is dropped (R113). -/
theorem Stands.handless (h : Stands queue hand) : Stands (queue.filter fun e => e.cond != .inHand) none := by
  obtain ⟨ready, later, before, after, rfl⟩ := h
  have noReady := filter_hand_eq_self (queue := ready) fun e he => by simp [before e he]
  have noLater := filter_hand_eq_self (queue := later) fun e he => by simp [after e he]
  simp only [List.filter_append, noReady, noLater]
  cases hand with
  | none => exact ⟨ready, later, before, after, rfl⟩
  | some f => exact ⟨ready, later, before, after, by simp⟩

/-! ### The queues, part by part -/

/-- A frame in send that has not left its queue is its oldest frame, a transit frame being ready (R128, R130). -/
def SendsHead (send : Option InSend) (transit : List TransitEntry) (origination : List Frame) : Prop :=
  ∀ x, send = some x → x.left = false →
    match x.source with
    | .transit => transit.head? = some { frame := x.frame, cond := .ready }
    | .origination => origination.head? = some x.frame

/-- The queues of a station, its scan and its send. -/
structure QueuesStand (s : State) : Prop where
  hand : ∃ hand, Stands s.fh.transit hand ∧ hand.isSome = s.scan.isSome ∧
    ∀ f, hand = some f → isBallot f = true ∧ dueAllowed s.ctl.state = true
  sends : SendsHead s.fh.inSend s.fh.transit s.fh.origination
  quiet : inRing s.ctl.state = false →
    s.fh.transit = [] ∧ s.fh.origination = [] ∧ s.fh.inSend = none ∧ s.fh.arbiterPos = 0

theorem QueuesFit.stand (h : QueuesFit s) : QueuesStand s := by
  obtain ⟨hand, stands⟩ := stands_of_ordered h.order
  have same : handFrame s = hand := stands.find
  refine ⟨⟨hand, stands, same ▸ h.hand, fun f hf => h.scanned f (same.trans hf)⟩, fun x hx left => ?_,
    fun out => h.quiet ((outOfRing_iff _).2 out)⟩
  split
  · exact h.transitSend x hx ‹_› left
  · exact h.originationSend x hx ‹_› left

theorem QueuesStand.fit (h : QueuesStand s) : QueuesFit s := by
  obtain ⟨⟨hand, stands, scan, scanned⟩, sends, quiet⟩ := h
  have same : handFrame s = hand := stands.find
  refine ⟨stands.ordered, by rw [same]; exact scan, fun f hf => scanned f (same.symm.trans hf),
    fun x hx source left => ?_, fun x hx source left => ?_, fun out => quiet ((outOfRing_iff _).1 out)⟩
  · simpa [source] using sends x hx left
  · simpa [source] using sends x hx left

/-! ### What the moves do to the queues -/

/-- The frame handler, the scan and the station state are those of the state before. -/
theorem QueuesStand.same (h : QueuesStand s) (transit : t.fh.transit = s.fh.transit)
    (origination : t.fh.origination = s.fh.origination) (send : t.fh.inSend = s.fh.inSend)
    (position : t.fh.arbiterPos = s.fh.arbiterPos) (scan : t.scan = s.scan) (state : t.ctl.state = s.ctl.state) :
    QueuesStand t := by
  obtain ⟨hand, sends, quiet⟩ := h
  refine ⟨?_, ?_, ?_⟩
  · rw [transit, scan, state]; exact hand
  · rw [transit, origination, send]; exact sends
  · rw [transit, origination, send, position, state]; exact quiet

/-- Every queue is empty and nothing is sent or scanned. -/
theorem queuesStand_empty (transit : t.fh.transit = []) (origination : t.fh.origination = []) (send : t.fh.inSend = none)
    (position : t.fh.arbiterPos = 0) (scan : t.scan = none) : QueuesStand t := by
  refine ⟨⟨none, ?_, ?_, nofun⟩, ?_, fun _ => ⟨transit, origination, send, position⟩⟩
  · rw [transit]; exact stands_nil
  · rw [scan]; rfl
  · intro x hx
    rw [send] at hx
    cases hx

theorem queuesStand_enterHalted (cause : HaltCause) (u : State) : QueuesStand (enterHalted cause u) :=
  queuesStand_empty rfl rfl rfl rfl rfl

theorem Restarted.queuesStand (h : Restarted s t) : QueuesStand t := by
  obtain ⟨cause, h⟩ := h.values
  rw [h]
  exact queuesStand_empty rfl rfl rfl rfl rfl

/-- No frame is in hand, between events, in a station state without scans. -/
theorem QueuesStand.handless (h : QueuesStand s) (still : dueAllowed s.ctl.state = false) :
    Stands s.fh.transit none ∧ s.scan = none := by
  obtain ⟨hand, stands, scan, scanned⟩ := h.hand
  obtain rfl : hand = none := by
    cases hand with
    | none => rfl
    | some f =>
      have := (scanned f rfl).2
      rw [still] at this
      cases this
  exact ⟨stands, by simpa using scan.symm⟩

@[simp] theorem leaveQueue_left_self (src : SendSource) (x : InSend) :
    (leaveQueue src x).left = (x.left || decide (x.source = src)) := by
  unfold leaveQueue
  split <;> simp_all

@[simp] theorem leaveIfCensus_frame (x : InSend) : (leaveIfCensus x).frame = x.frame := by
  unfold leaveIfCensus; split <;> rfl

@[simp] theorem leaveIfCensus_source (x : InSend) : (leaveIfCensus x).source = x.source := by
  unfold leaveIfCensus; split <;> rfl

/-- The origination queue is flushed: a frame of it in send has left it (R123). -/
theorem SendsHead.flushed {send : Option InSend} {queue queue' : List TransitEntry} {own : List Frame}
    (h : SendsHead send queue own)
    (kept : ∀ f, queue.head? = some { frame := f, cond := .ready } → queue'.head? = some { frame := f, cond := .ready }) :
    SendsHead (send.map (leaveQueue .origination)) queue' [] := by
  intro x hx left
  obtain ⟨y, hy, rfl⟩ := Option.map_eq_some_iff.1 hx
  simp only [leaveQueue_left_self, Bool.or_eq_false_iff, decide_eq_false_iff_not] at left
  have head := h y hy left.1
  rw [leaveQueue_source, leaveQueue_frame]
  cases hs : y.source with
  | transit =>
    rw [hs] at head
    exact kept _ head
  | origination => exact absurd hs left.2

/-- Frames queued behind the others leave the oldest in its place. -/
theorem SendsHead.queued {send : Option InSend} {queue : List TransitEntry} {own : List Frame} (h : SendsHead send queue own)
    (f : Frame) : SendsHead send queue (own ++ [f]) := by
  intro x hx left
  have head := h x hx left
  split
  · simpa [*] using head
  · simp only [*] at head
    rw [List.head?_append, head]
    rfl

theorem QueuesStand.enqueued (h : QueuesStand s) (f : Frame) (ring : inRing s.ctl.state = true) :
    QueuesStand (enqueue f s) :=
  ⟨h.hand, h.sends.queued f, fun out => by
    have out : inRing s.ctl.state = false := out
    rw [ring] at out
    cases out⟩

theorem inRing_of_dueAllowed (allowed : dueAllowed s.ctl.state = true) : inRing s.ctl.state = true := by
  rcases dueAllowed_iff.1 allowed with e | e <;> rw [e] <;> rfl

/-- A frame that waits is taken where nothing is in hand. -/
theorem QueuesStand.awaits (h : QueuesStand s) (a : Awaits s ready f later) :
    inRing s.ctl.state = true ∧ s.scan = none ∧ ∀ e ∈ later, e.cond = .awaiting := by
  obtain ⟨hand, stands, scan, -⟩ := h.hand
  obtain ⟨rfl, after⟩ := stands.awaits a.before a.queue a.after
  refine ⟨?_, by simpa using scan.symm, after⟩
  by_contra out
  exact a.ne_nil (h.quiet (by simpa using out)).1

/-- The ready head of a queue stays its head when the frame behind the ready ones is taken. -/
theorem Awaits.head (a : Awaits s ready f later) {rest : List TransitEntry} {x : Frame}
    (head : s.fh.transit.head? = some { frame := x, cond := .ready }) :
    (ready ++ rest).head? = some { frame := x, cond := .ready } := by
  rw [a.queue] at head
  cases ready with
  | nil => simp at head
  | cons e es => simpa using head

/-- A queue whose ready frames stay at its head serves the send as before. -/
theorem SendsHead.taken {send : Option InSend} {queue queue' : List TransitEntry} {own : List Frame}
    (h : SendsHead send queue own)
    (kept : ∀ f, queue.head? = some { frame := f, cond := .ready } → queue'.head? = some { frame := f, cond := .ready }) :
    SendsHead send queue' own := by
  intro x hx left
  have head := h x hx left
  cases hs : x.source with
  | transit =>
    rw [hs] at head
    exact kept _ head
  | origination =>
    rw [hs] at head
    exact head

theorem QueuesStand.takenOut (h : QueuesStand s) (a : Awaits s ready f later) :
    QueuesStand (withTransit (ready ++ later) s) := by
  obtain ⟨ring, scan, after⟩ := h.awaits a
  refine ⟨⟨none, stands_of_ready_awaiting a.before after, by simp [withTransit, scan], nofun⟩, h.sends.taken fun _ => a.head,
    fun out => ?_⟩
  have out : inRing s.ctl.state = false := out
  rw [ring] at out
  cases out

theorem QueuesStand.takenOn (h : QueuesStand s) (a : Awaits s ready f later) (g : Frame) :
    QueuesStand (withTransit (ready ++ { frame := g, cond := .ready } :: later) s) := by
  obtain ⟨ring, scan, after⟩ := h.awaits a
  have stands : Stands (ready ++ { frame := g, cond := .ready } :: later) none := by
    refine ⟨ready ++ [{ frame := g, cond := .ready }], later, fun e he => ?_, after, by simp⟩
    rcases List.mem_append.1 he with he | he
    · exact a.before e he
    · rw [List.mem_singleton.1 he]
  refine ⟨⟨none, stands, by simp [withTransit, scan], nofun⟩, h.sends.taken fun _ => a.head, fun out => ?_⟩
  have out : inRing s.ctl.state = false := out
  rw [ring] at out
  cases out

theorem QueuesStand.scanBegun (h : QueuesStand s) (a : Awaits s ready f later) (ballot : isBallot f = true)
    (allowed : dueAllowed s.ctl.state = true) (x : Scan) :
    QueuesStand (withScan (some x) (withTransit (ready ++ { frame := f, cond := .inHand } :: later) s)) := by
  obtain ⟨ring, scan, after⟩ := h.awaits a
  refine ⟨⟨some f, ⟨ready, later, a.before, after, rfl⟩, rfl, fun y hy => ?_⟩, h.sends.taken fun _ => a.head, fun out => ?_⟩
  · cases hy
    exact ⟨ballot, allowed⟩
  · have out : inRing s.ctl.state = false := out
    rw [ring] at out
    cases out

theorem QueuesStand.scanEnded (h : QueuesStand s) (g : Frame) : QueuesStand (readyHand g (withScan none s)) := by
  obtain ⟨hand, stands, scan, scanned⟩ := h.hand
  refine ⟨⟨none, stands.readied g, rfl, nofun⟩, h.sends.taken fun x head => ?_, fun out => ?_⟩
  · change (List.map _ s.fh.transit).head? = _
    rw [List.head?_map, head]
    simp
  · obtain ⟨transit, rest⟩ := h.quiet out
    refine ⟨?_, rest⟩
    change List.map _ s.fh.transit = _
    rw [transit]
    rfl

theorem QueuesStand.sendBegun (h : QueuesStand s) (p : PartsFit s) {src : SendSource} {position : Nat}
    (can : canSend s = true)
    (candidate : match src with
      | .transit => s.fh.transit.head? = some { frame := f, cond := .ready }
      | .origination => s.fh.origination.head? = some f) : QueuesStand (beginSend f src position s) := by
  refine ⟨h.hand, fun x hx _ => ?_, fun out => ?_⟩
  · cases hx
    exact candidate
  · have ring := p.down.inRing ((canSend_iff s).1 can).1 (by simp)
    have out : inRing s.ctl.state = false := out
    rw [ring] at out
    cases out

/-- The frame in send has left its queue when it departs (R130). -/
theorem QueuesStand.departed (h : QueuesStand s) {x : InSend} (sending : s.fh.inSend = some x) :
    QueuesStand (departed x s) := by
  obtain ⟨hand, stands, scan, scanned⟩ := h.hand
  have out : inRing s.ctl.state ≠ false := fun out => by
    have := (h.quiet out).2.2.1
    rw [sending] at this
    cases this
  unfold Machine.departed chargeCredit leaveAtDeparture
  split
  · exact ⟨h.hand, nofun, fun o => absurd o out⟩
  · rename_i left
    have head := h.sends x sending (by simpa using left)
    cases hs : x.source with
    | transit =>
      rw [hs] at head
      exact ⟨⟨hand, stands.dropped head, scan, scanned⟩, nofun, fun o => absurd o out⟩
    | origination => exact ⟨h.hand, nofun, fun o => absurd o out⟩

theorem QueuesStand.flushed (h : QueuesStand s) : QueuesStand (flushTransit s) := by
  refine ⟨⟨none, stands_nil, rfl, nofun⟩, fun x hx left => ?_, fun out => ?_⟩
  · obtain ⟨y, hy, rfl⟩ := Option.map_eq_some_iff.1 hx
    simp only [leaveQueue_left_self, Bool.or_eq_false_iff, decide_eq_false_iff_not] at left
    have head := h.sends y hy left.1
    rw [leaveQueue_source, leaveQueue_frame]
    cases hs : y.source with
    | transit => exact absurd hs left.2
    | origination =>
      rw [hs] at head
      exact head
  · obtain ⟨-, origination, send, -⟩ := h.quiet out
    refine ⟨rfl, origination, ?_, rfl⟩
    change s.fh.inSend.map _ = none
    rw [send]
    rfl

theorem QueuesStand.rebased (h : QueuesStand s) : QueuesStand (sendRebase s) := by
  refine ⟨h.hand, fun x hx left => ?_, fun out => ?_⟩
  · obtain ⟨y, hy, rfl⟩ := Option.map_eq_some_iff.1 hx
    exact h.sends y hy left
  · obtain ⟨transit, origination, send, position⟩ := h.quiet out
    refine ⟨transit, origination, ?_, position⟩
    change s.fh.inSend.map _ = none
    rw [send]
    rfl

theorem QueuesStand.lostUp (h : QueuesStand s) (p : UpstreamPort) : QueuesStand (lostUp p s) := by
  have flushed : QueuesStand (flushTransit { s with up := p }) := (h.same (t := { s with up := p }) rfl rfl rfl rfl rfl rfl).flushed
  unfold Machine.lostUp
  simp only
  split
  · exact QueuesStand.rebased (flushed.same (t := { flushTransit { s with up := p } with down := _ }) rfl rfl rfl rfl rfl rfl)
  · exact flushed

theorem QueuesStand.cutDown (h : QueuesStand s) (d : DownstreamPort) : QueuesStand (cutDown d s) := by
  refine ⟨h.hand, nofun, fun out => ?_⟩
  obtain ⟨transit, origination, -, position⟩ := h.quiet out
  exact ⟨transit, origination, rfl, position⟩

/-- What an abandoned scan leaves stands in order, with nothing in hand (R76). -/
theorem QueuesStand.leftByScan (h : QueuesStand s) :
    Stands (leftByScan s) none ∧
      ∀ f, s.fh.transit.head? = some { frame := f, cond := .ready } →
        (Machine.leftByScan s).head? = some { frame := f, cond := .ready } := by
  obtain ⟨hand, stands, scan, scanned⟩ := h.hand
  unfold Machine.leftByScan
  split
  · refine ⟨stands.handless, fun f head => ?_⟩
    cases hq : s.fh.transit with
    | nil => simp [hq] at head
    | cons e es =>
      rw [hq] at head
      cases head
      rfl
  · rename_i idle
    obtain rfl : hand = none := by
      rw [Option.not_isSome_iff_eq_none] at idle
      simpa [idle] using scan
    exact ⟨stands, fun _ head => head⟩

/-- The entry to FORMING beside the table, from the queues as they stand (R149). -/
theorem QueuesStand.formed (h : QueuesStand s) (fh : v.fh = s.fh) (scan : v.scan = s.scan)
    (ring : inRing v.ctl.state = true) : QueuesStand (formingUnits v) := by
  obtain ⟨stands, kept⟩ := h.leftByScan
  have left : Machine.leftByScan v = Machine.leftByScan s := by simp only [Machine.leftByScan, fh, scan]
  obtain ⟨sent, units⟩ := formingUnits_eq v
  rw [units, left, fh]
  refine ⟨⟨none, stands, rfl, nofun⟩, h.sends.flushed kept, fun out => ?_⟩
  have out : inRing v.ctl.state = false := out
  rw [ring] at out
  cases out

/-- At an adoption the queued CENSUS frames go, and one in send has left its queue (R123). -/
theorem SendsHead.adopted {send : Option InSend} {own : List Frame} (h : SendsHead send queue own) :
    SendsHead (send.map leaveIfCensus) queue (own.filter (!isCensus ·)) := by
  intro x hx left
  obtain ⟨y, hy, rfl⟩ := Option.map_eq_some_iff.1 hx
  rw [leaveIfCensus_source, leaveIfCensus_frame]
  unfold leaveIfCensus at left
  split at left
  · cases left
  · rename_i other
    have head := h y hy left
    cases hs : y.source with
    | transit =>
      rw [hs] at head
      exact head
    | origination =>
      rw [hs] at head
      obtain ⟨rest, rfl⟩ := List.head?_eq_some_iff.1 head
      have notCensus : isCensus y.frame = false := by simpa [hs] using other
      simp [notCensus]

theorem QueuesStand.adopted (h : QueuesStand s) (working : formingOrIsolated s.ctl.state = true) (epoch : Word32)
    (members : List StationId) : QueuesStand (adoptBase epoch members s) := by
  have still : dueAllowed s.ctl.state = false := by cases hs : s.ctl.state <;> simp_all [formingOrIsolated, dueAllowed]
  obtain ⟨stands, scan⟩ := h.handless still
  exact ⟨⟨none, stands, by simp [adoptBase, scan], nofun⟩, h.sends.adopted, nofun⟩

theorem QueuesStand.isolated (h : QueuesStand s) (forming : s.ctl.state = .forming) : QueuesStand (isolatedUnits s) := by
  obtain ⟨stands, scan⟩ := h.handless (by simp [forming, dueAllowed])
  exact ⟨⟨none, stands, by simp [isolatedUnits, scan], nofun⟩, h.sends.flushed fun _ head => head, nofun⟩

theorem QueuesStand.configured (h : QueuesStand s) (c : Configuration) (unborn : s.ctl.state = .unconfigured) :
    QueuesStand (acceptConfiguration c s) := by
  obtain ⟨stands, scan⟩ := h.handless (by simp [unborn, dueAllowed])
  obtain ⟨transit, origination, send, position⟩ := h.quiet (by simp [unborn, inRing])
  exact queuesStand_empty transit origination send position scan

/-- The table has no part in the queues. -/
theorem QueuesStand.tableOnly (h : QueuesStand s) (only : TableOnly s t) : QueuesStand t := by
  rw [only]
  exact h.same rfl rfl rfl rfl rfl rfl

theorem QueuesStand.enters (h : QueuesStand s) (enters : Enters s t) : QueuesStand t := by
  cases enters <;> exact h.same rfl rfl rfl rfl rfl rfl

theorem QueuesStand.leaving (h : QueuesStand s) : QueuesStand (leavingUnits s) := by
  obtain ⟨hand, stands, scan, scanned⟩ := h.hand
  exact ⟨⟨hand, stands, scan, fun f hf => ⟨(scanned f hf).1, rfl⟩⟩, h.sends, nofun⟩

/-! ### The order is kept -/

theorem QueuesStand.move (h : QueuesStand s) (p : PartsFit s) (m : Move s t) : QueuesStand t := by
  cases m with
  | aside a =>
    rw [a.only]
    exact h.same rfl rfl rfl rfl rfl rfl
  | halt cause u => exact queuesStand_enterHalted _ _
  | turn only sound each => exact h.tableOnly only
  | shadowed i identity a free allowed => exact h.tableOnly (tableOnly_writeRecord ..)
  | stamp enters active limit => exact h.enters enters
  | upPort m => exact h.same rfl rfl rfl rfl rfl rfl
  | downPort m => exact h.same rfl rfl rfl rfl rfl rfl
  | downTrained waiting link credit far => exact h.cutDown _
  | upLost up link owed far run => exact h.lostUp _
  | downLost up link credit far => exact (h.cutDown _).flushed
  | shadowUnit m => exact h.same rfl rfl rfl rfl rfl rfl
  | arrived f up room =>
    obtain ⟨hand, stands, scan, scanned⟩ := h.hand
    refine ⟨⟨hand, stands.arrived f, scan, scanned⟩, h.sends.taken fun x head => ?_, fun out => ?_⟩
    · change (s.fh.transit ++ _).head? = _
      rw [List.head?_append, head]
      rfl
    · have out : inRing s.ctl.state = false := out
      rw [p.up.inRing up (by simp)] at out
      cases out
  | takenOut a => exact h.takenOut a
  | takenOn g a => exact h.takenOn a g
  | scanBegun a ballot allowed => exact h.scanBegun a ballot allowed _
  | scanMoved x running bound =>
    obtain ⟨hand, stands, scan, scanned⟩ := h.hand
    exact ⟨⟨hand, stands, scan.trans running, scanned⟩, h.sends, h.quiet⟩
  | scanEnded g running => exact h.scanEnded g
  | queued f room allowed noBallot => exact h.enqueued f (inRing_of_dueAllowed allowed)
  | censusQueued f room working census =>
    exact (h.enqueued f (inRing_of_working working)).same rfl rfl rfl rfl rfl rfl
  | ballotQueued i r room allowed held due clear =>
    exact (h.tableOnly (tableOnly_writeRecord i { r with due := none } s)).enqueued _ (inRing_of_dueAllowed allowed)
  | sendBegun f src position can bound candidate => exact h.sendBegun p can candidate
  | departed sending => exact h.departed sending
  | keyAccepted k working above => exact h.same rfl rfl rfl rfl rfl rfl
  | proposed top working room epoch best => exact h.same rfl rfl rfl rfl rfl rfl
  | rosterOwed d working best => exact h.same rfl rfl rfl rfl rfl rfl
  | retryTimed timer working => exact h.same rfl rfl rfl rfl rfl rfl
  | unitsTicked => exact h.same rfl rfl rfl rfl rfl rfl
  | @formed u v enters active room table =>
    have entered : QueuesStand u := by
      rcases enters with rfl | enters
      · exact h
      · exact h.enters enters
    have formed := entered.formed (v := v) (by rw [table.1]; rfl) (by rw [table.1]; rfl) (by rw [table.1]; rfl)
    exact formed.same rfl rfl rfl rfl rfl rfl
  | @formedBy k v active newer table =>
    have formed := h.formed (v := v) (by rw [table.1]; rfl) (by rw [table.1]; rfl) (by rw [table.1]; rfl)
    exact formed.same rfl rfl rfl rfl rfl rfl
  | @isolated v forming table => exact ((h.isolated forming).tableOnly table.1).same rfl rfl rfl rfl rfl rfl
  | @detached out v leaving table =>
    rw [table.1]
    exact queuesStand_empty rfl rfl rfl rfl rfl
  | left active table => exact h.leaving.tableOnly table.1
  | @adopted epoch members u v working best queued only sound table =>
    have entered : QueuesStand u ∧ u.ctl = s.ctl := by
      rcases queued with rfl | ⟨-, rfl⟩
      · exact ⟨h, rfl⟩
      · exact ⟨h.enqueued _ (inRing_of_working working), rfl⟩
    have adopted := entered.1.adopted (by rw [entered.2]; exact working) epoch members
    rw [only]
    exact adopted.same rfl rfl rfl rfl rfl rfl

theorem QueuesStand.moves (h : QueuesStand s) (p : PartsFit s) (m : Moves s t) : QueuesStand t := by
  suffices PartsFit t ∧ QueuesStand t from this.2
  induction m with
  | refl => exact ⟨p, h⟩
  | tail _ m ih => exact ⟨ih.1.move m, ih.2.move ih.1 m⟩

theorem QueuesStand.departsBallot (h : QueuesStand s) {x : InSend} {b : Ballot} {i : SlotNo} {r : Record}
    (d : DepartsBallot s t x b i r) : QueuesStand t := by
  rw [d.out]
  exact (h.departed d.sending).same rfl rfl rfl rfl rfl rfl

theorem QueuesStand.stationRun (h : QueuesStand s) (p : PartsFit s) (m : StationRun s t) : QueuesStand t := by
  cases m with
  | moves m => exact h.moves p m
  | configured c fresh unborn out => exact out ▸ h.configured c unborn
  | ballot d => exact h.departsBallot d

theorem QueuesStand.runs (h : QueuesStand s) (p : PartsFit s) (m : Runs s t) : QueuesStand t := by
  obtain ⟨before, after, u, run, rfl⟩ := m
  have start : QueuesStand { s with host := before } := h.same rfl rfl rfl rfl rfl rfl
  exact (start.stationRun (p.hosted before) run).same rfl rfl rfl rfl rfl rfl

end

/-- Settles O55, move by move. -/
theorem queueOrderKept : Obligations.QueueOrderKept := by
  intro s t links h stepped
  obtain ⟨pending, runs | restarted⟩ := step_leads stepped
  · have parts : PartsFit { s with pending := pending } := PartsFit.same links.parts
      ⟨rfl, rfl, rfl, rfl, rfl, fun x hx => ⟨x, hx, rfl⟩, id⟩
    have queues : QueuesStand { s with pending := pending } := h.stand.same rfl rfl rfl rfl rfl rfl
    exact (queues.runs parts runs).fit
  · exact restarted.queuesStand.fit

end Sys2Proof.Machine
end

section
/-! PROOF. Best key, ROSTER due and epoch keep their relation, and nothing but a reset lowers the epoch or the best key
(R131 to R133, R138, R141). -/

namespace Sys2Proof.Machine

section
variable {s t u v w : State}

/-! ### Keys -/

theorem keyAbove_iff (x y : Key) :
    keyAbove x y = true ↔ y.epoch < x.epoch ∨ x.epoch = y.epoch ∧ y.origin < x.origin := by
  simp [keyAbove]

theorem keyAbove_trans {x y z : Key} (h : keyAbove x y = true) (h' : keyAbove y z = true) : keyAbove x z = true := by
  rw [keyAbove_iff] at *
  rcases h with h | ⟨he, h⟩ <;> rcases h' with h' | ⟨he', h'⟩
  · exact .inl (BitVec.lt_trans h' h)
  · exact .inl (he' ▸ h)
  · exact .inl (he ▸ h')
  · exact .inr ⟨he.trans he', BitVec.lt_trans h' h⟩

theorem keyAbove_epoch {x y : Key} (h : keyAbove x y = true) : y.epoch ≤ x.epoch := by
  rcases (keyAbove_iff x y).1 h with h | ⟨h, -⟩
  · exact BitVec.le_of_lt h
  · exact BitVec.le_of_eq h.symm

theorem keyAbove_of_epoch {x y : Key} (h : y.epoch < x.epoch) : keyAbove x y = true := (keyAbove_iff x y).2 (.inl h)

/-- The next epoch is above all up to the one before it. -/
theorem lt_nextEpoch {x top : Word32} (h : x ≤ top) (room : top ≠ Config.maxWord32) : x < top + 1 := by
  simp only [Config.maxWord32] at room
  bv_omega

/-! ### The epoch and the best key grow -/

/-- Neither the epoch nor the best key falls. -/
structure Grows (s t : State) : Prop where
  epoch : s.census.epoch ≤ t.census.epoch
  best : ∀ k, s.census.bestKey = some k → ∃ k', t.census.bestKey = some k' ∧ (k' = k ∨ keyAbove k' k = true)

theorem Grows.same (epoch : t.census.epoch = s.census.epoch) (best : t.census.bestKey = s.census.bestKey) : Grows s t :=
  ⟨BitVec.le_of_eq epoch.symm, fun k hk => ⟨k, best.trans hk, .inl rfl⟩⟩

theorem Grows.trans (h : Grows s t) (h' : Grows t u) : Grows s u := by
  refine ⟨BitVec.le_trans h.epoch h'.epoch, fun k hk => ?_⟩
  obtain ⟨x, hx, above⟩ := h.best k hk
  obtain ⟨y, hy, above'⟩ := h'.best x hx
  refine ⟨y, hy, ?_⟩
  rcases above with rfl | above
  · exact above'
  · rcases above' with rfl | above'
    · exact .inr above
    · exact .inr (keyAbove_trans above' above)

/-! ### The relation of epoch, best key and ROSTER due -/

/-- The states that share the census unit, the ID, the station state and no more of the origination queue. -/
theorem EpochFit.same (h : EpochFit s) (epoch : t.census.epoch = s.census.epoch) (best : t.census.bestKey = s.census.bestKey)
    (roster : t.census.rosterDue = s.census.rosterDue) (id : t.stationId = s.stationId)
    (state : t.ctl.state = s.ctl.state) (own : ∀ f ∈ t.fh.origination, f ∈ s.fh.origination) : EpochFit t := by
  obtain ⟨unborn, forming, adopted, due, queued⟩ := h
  refine ⟨?_, ?_, ?_, ?_, fun still f hf => queued (state ▸ still) f (own f hf)⟩
  · rw [state, epoch, best]; exact unborn
  · rw [state, epoch, best]; exact forming
  · rw [state, epoch, best]; exact adopted
  · rw [state, best, roster, id]; exact due

/-- In a station state without epoch the census unit owes no ROSTER, and none is queued. -/
theorem epochFit_out (state : t.ctl.state = .detached ∨ t.ctl.state = .halted) (roster : t.census.rosterDue = none)
    (own : t.fh.origination = []) : EpochFit t := by
  rcases state with e | e <;>
    exact ⟨by simp [e], by simp [e, formingOrIsolated], by simp [e, dueAllowed], by simp [roster], by simp [own]⟩

theorem epochFit_enterHalted (cause : HaltCause) (u : State) : EpochFit (enterHalted cause u) :=
  epochFit_out (.inr rfl) rfl rfl

/-- While the ring forms the best key stands above the epoch. -/
theorem epochFit_forming (working : formingOrIsolated t.ctl.state = true) {k : Key} (best : t.census.bestKey = some k)
    (above : t.census.epoch < k.epoch)
    (roster : ∀ d, t.census.rosterDue = some d → t.census.bestKey = some { epoch := d.epoch, origin := t.stationId })
    (own : ∀ f ∈ t.fh.origination, rosterDueOf f = none) : EpochFit t := by
  refine ⟨fun unborn => ?_, fun _ => ⟨k, best, above⟩, fun allowed => ?_, fun d hd => ⟨working, roster d hd⟩, fun _ => own⟩
  · simp [unborn, formingOrIsolated] at working
  · rcases dueAllowed_iff.1 allowed with e | e <;> simp [e, formingOrIsolated] at working

/-- Once adopted the best key stands at the epoch. -/
theorem epochFit_adopted (allowed : dueAllowed t.ctl.state = true) {k : Key} (best : t.census.bestKey = some k)
    (at' : k.epoch = t.census.epoch) (roster : t.census.rosterDue = none) : EpochFit t := by
  refine ⟨fun unborn => ?_, fun working => ?_, fun _ => ⟨k, best, at'⟩, by simp [roster], fun still => ?_⟩
  · simp [unborn, dueAllowed] at allowed
  · rcases dueAllowed_iff.1 allowed with e | e <;> simp [e, formingOrIsolated] at working
  · simp [still] at allowed

theorem not_dueAllowed_of_working (working : formingOrIsolated s.ctl.state = true) : dueAllowed s.ctl.state = false := by
  cases hs : s.ctl.state <;> simp_all [formingOrIsolated, dueAllowed]

theorem EpochFit.roster_none (h : EpochFit s) (allowed : dueAllowed s.ctl.state = true) : s.census.rosterDue = none := by
  cases hd : s.census.rosterDue with
  | none => rfl
  | some d =>
    have working := (h.roster d hd).1
    rw [not_dueAllowed_of_working working] at allowed
    cases allowed

/-- The relation is kept, and epoch and best key do not fall. -/
abbrev EpochStep (s t : State) : Prop := EpochFit t ∧ Grows s t

theorem EpochFit.stay (h : EpochFit s) (census : t.census = s.census) (id : t.stationId = s.stationId)
    (state : t.ctl.state = s.ctl.state) (own : ∀ f ∈ t.fh.origination, f ∈ s.fh.origination) : EpochStep s t :=
  ⟨h.same (by rw [census]) (by rw [census]) (by rw [census]) id state own, .same (by rw [census]) (by rw [census])⟩

theorem EpochFit.halted (h : EpochFit s) (cut : Partial s u) (cause : HaltCause) : EpochStep s (enterHalted cause u) := by
  refine ⟨epochFit_enterHalted _ _, ?_, fun k hk => ⟨k, cut.bestKey.trans hk, .inl rfl⟩⟩
  change s.census.epoch ≤ u.census.epoch
  rcases cut.epoch with same | ⟨working, best⟩
  · exact BitVec.le_of_eq same.symm
  · obtain ⟨k, hk, above⟩ := h.forming working
    obtain ⟨o, ho⟩ := best h
    obtain rfl := Option.some.inj (hk.symm.trans ho)
    exact BitVec.le_of_lt above

/-- Frames that are no ROSTER may be queued, and any where the epoch stands. -/
theorem EpochFit.queued_move (h : EpochFit s) (f : Frame) (noRoster : dueAllowed s.ctl.state = false → rosterDueOf f = none)
    (census : t.census.epoch = s.census.epoch ∧ t.census.bestKey = s.census.bestKey ∧
      t.census.rosterDue = s.census.rosterDue) (id : t.stationId = s.stationId)
    (state : t.ctl.state = s.ctl.state) (own : t.fh.origination = s.fh.origination ++ [f]) : EpochStep s t := by
  obtain ⟨epoch, best, roster⟩ := census
  refine ⟨⟨?_, ?_, ?_, ?_, fun still g hg => ?_⟩, .same epoch best⟩
  · rw [state, epoch, best]; exact h.unborn
  · rw [state, epoch, best]; exact h.forming
  · rw [state, epoch, best]; exact h.adopted
  · rw [state, best, roster, id]; exact h.roster
  · rw [own, List.mem_append, List.mem_singleton] at hg
    rw [state] at still
    rcases hg with hg | rfl
    · exact h.queued still g hg
    · exact noRoster still

/-- A key above the best becomes the best key, in a station whose ring forms (R133, R135, R143). -/
theorem EpochFit.raised (h : EpochFit s) {k : Key} (working : formingOrIsolated s.ctl.state = true)
    (epoch : t.census.epoch = s.census.epoch) (best : t.census.bestKey = some k) (roster : t.census.rosterDue = none)
    (state : t.ctl.state = s.ctl.state) (own : t.fh.origination = s.fh.origination)
    (above : ∀ b, s.census.bestKey = some b → keyAbove k b = true) : EpochStep s t := by
  obtain ⟨b, hb, under⟩ := h.forming working
  refine ⟨epochFit_forming (state ▸ working) best ?_ (by simp [roster]) ?_, BitVec.le_of_eq epoch.symm,
    fun x hx => ⟨k, best, .inr (above x hx)⟩⟩
  · rw [epoch]
    have reaches := keyAbove_epoch (above b hb)
    bv_omega
  · rw [own]
    exact h.queued (not_dueAllowed_of_working working)

/-- A station in ACTIVE enters FORMING with a best key above its epoch (R133, R149). -/
theorem EpochFit.formed (h : EpochFit s) {k : Key} (active : s.ctl.state = .active) (epoch : t.census.epoch = s.census.epoch)
    (best : t.census.bestKey = some k) (above : s.census.epoch < k.epoch) (roster : t.census.rosterDue = none)
    (state : t.ctl.state = .forming) (own : t.fh.origination = []) : EpochStep s t := by
  obtain ⟨b, hb, at'⟩ := h.adopted (by rw [active]; rfl)
  refine ⟨epochFit_forming (by rw [state]; rfl) best (epoch ▸ above) (by simp [roster]) (by simp [own]),
    BitVec.le_of_eq epoch.symm, fun x hx => ⟨k, best, .inr ?_⟩⟩
  obtain rfl := Option.some.inj (hb.symm.trans hx)
  exact keyAbove_of_epoch (at' ▸ above)

theorem EpochFit.isolated (h : EpochFit s) (forming : s.ctl.state = .forming) : EpochStep s (isolatedUnits s) := by
  have working : formingOrIsolated s.ctl.state = true := by rw [forming]; rfl
  have none' : s.fh.origination.findSome? rosterDueOf = none :=
    List.findSome?_eq_none_iff.2 (h.queued (not_dueAllowed_of_working working))
  have roster : (isolatedUnits s).census.rosterDue = s.census.rosterDue := by
    change s.census.rosterDue.or (s.fh.origination.findSome? rosterDueOf) = _
    rw [none', Option.or_none]
  obtain ⟨k, hk, above⟩ := h.forming working
  refine ⟨epochFit_forming rfl hk above (fun d hd => ?_) (by simp [isolatedUnits, flushOrigination]), .same rfl rfl⟩
  rw [roster] at hd
  exact (h.roster d hd).2

theorem EpochFit.configured (h : EpochFit s) (c : Configuration) (unborn : s.ctl.state = .unconfigured) :
    EpochStep s (acceptConfiguration c s) := by
  obtain ⟨epoch, best⟩ := h.unborn unborn
  refine ⟨epochFit_forming rfl rfl ?_ nofun (h.queued (by simp [unborn, dueAllowed])), BitVec.le_refl _, fun k hk => ?_⟩
  · change s.census.epoch < 1
    rw [epoch]
    decide
  · rw [best] at hk
    cases hk

theorem EpochFit.adopted_move (h : EpochFit s) {epoch : Word32} (working : formingOrIsolated s.ctl.state = true)
    (best : EpochFit s → ∃ o, s.census.bestKey = some { epoch := epoch, origin := o })
    (epoch' : t.census.epoch = epoch) (key : t.census.bestKey = s.census.bestKey) (roster : t.census.rosterDue = none)
    (state : t.ctl.state = .active) : EpochStep s t := by
  obtain ⟨k, hk, above⟩ := h.forming working
  obtain ⟨o, ho⟩ := best h
  obtain rfl := Option.some.inj (hk.symm.trans ho)
  refine ⟨epochFit_adopted (by rw [state]; rfl) (key.trans hk) epoch'.symm roster, ?_, fun x hx => ⟨x, key.trans hx, .inl rfl⟩⟩
  rw [epoch']
  exact BitVec.le_of_lt above

theorem departed_origination {x : InSend} {f : Frame} (h : f ∈ (departed x s).fh.origination) :
    f ∈ s.fh.origination := by
  unfold departed chargeCredit leaveAtDeparture at h
  split at h
  · exact h
  · split at h
    · exact h
    · exact List.mem_of_mem_drop h

theorem EpochFit.move (h : EpochFit s) (m : Move s t) : EpochStep s t := by
  cases m with
  | aside a =>
    rw [a.only]
    exact h.stay rfl rfl rfl fun _ => id
  | halt cause u => exact h.halted u cause
  | turn only sound each =>
    rw [only]
    exact h.stay rfl rfl rfl fun _ => id
  | shadowed i identity a free allowed => exact h.stay rfl rfl rfl fun _ => id
  | stamp enters active limit => cases enters <;> exact h.stay rfl rfl rfl fun _ => id
  | upPort m => exact h.stay rfl rfl rfl fun _ => id
  | downPort m => exact h.stay rfl rfl rfl fun _ => id
  | downTrained waiting link credit far => exact h.stay rfl rfl rfl fun _ => id
  | upLost up link owed far run =>
    unfold lostUp
    simp only
    split <;> exact h.stay rfl rfl rfl fun _ => id
  | downLost up link credit far => exact h.stay rfl rfl rfl fun _ => id
  | shadowUnit m => exact h.stay rfl rfl rfl fun _ => id
  | arrived f up room => exact h.stay rfl rfl rfl fun _ => id
  | takenOut a => exact h.stay rfl rfl rfl fun _ => id
  | takenOn g a => exact h.stay rfl rfl rfl fun _ => id
  | scanBegun a ballot allowed => exact h.stay rfl rfl rfl fun _ => id
  | scanMoved x running bound => exact h.stay rfl rfl rfl fun _ => id
  | scanEnded g running => exact h.stay rfl rfl rfl fun _ => id
  | queued f room allowed noBallot =>
    exact h.queued_move f (fun still => by simp [still] at allowed) ⟨rfl, rfl, rfl⟩ rfl rfl rfl
  | censusQueued f room working census =>
    refine h.queued_move f (fun _ => ?_) ⟨rfl, rfl, rfl⟩ rfl rfl rfl
    unfold isCensus at census
    unfold rosterDueOf
    split at census <;> simp_all
  | ballotQueued i r room allowed held due clear =>
    exact h.queued_move _ (fun still => by simp [still] at allowed) ⟨rfl, rfl, rfl⟩ rfl rfl rfl
  | sendBegun f src position can bound candidate => exact h.stay rfl rfl rfl fun _ => id
  | departed sending =>
    exact h.stay (departed_census ..) (by simp [State.stationId]) (by simp) fun _ => departed_origination
  | keyAccepted k working above =>
    refine h.raised (k := k) working rfl rfl rfl rfl rfl fun b hb => ?_
    simpa [hb, aboveBest] using above
  | proposed top working room epoch best =>
    exact h.raised working rfl rfl rfl rfl rfl fun b hb => keyAbove_of_epoch (lt_nextEpoch (best b hb) room)
  | rosterOwed d working best =>
    refine ⟨⟨h.unborn, h.forming, h.adopted, fun x hx => ?_, h.queued⟩, .same rfl rfl⟩
    cases hx
    exact ⟨working, best⟩
  | retryTimed timer working => exact ⟨h.same rfl rfl rfl rfl rfl fun _ => id, .same rfl rfl⟩
  | unitsTicked => exact ⟨h.same rfl rfl rfl rfl rfl fun _ => id, .same rfl rfl⟩
  | @formed u v enters active room table =>
    have entered : u.census = s.census := by
      rcases enters with rfl | enters
      · rfl
      · cases enters <;> rfl
    have census : v.census = s.census := by
      rw [table.1]
      exact entered
    have state : v.ctl.state = .forming := by rw [table.1]; rfl
    obtain ⟨sent, units⟩ := formingUnits_eq v
    rw [units]
    refine h.formed (k := ⟨v.census.epoch + 1, v.stationId⟩) active (by simp [census]) rfl ?_ rfl state rfl
    rw [census]
    exact lt_nextEpoch (BitVec.le_refl _) room
  | @formedBy k v active newer table =>
    have census : v.census = s.census := by rw [table.1]; rfl
    have state : v.ctl.state = .forming := by rw [table.1]; rfl
    obtain ⟨b, hb, at'⟩ := h.adopted (by rw [active]; rfl)
    have above : aboveBest k v.census.bestKey = true := by
      rw [census, hb]
      exact keyAbove_of_epoch (at' ▸ newer)
    obtain ⟨sent, units⟩ := formingUnits_eq v
    rw [if_pos above, units]
    exact h.formed (k := k) active (by simp [withCensus, acceptKey, census]) rfl newer rfl state rfl
  | @isolated v forming table =>
    obtain ⟨fit, grows⟩ := h.isolated forming
    rw [table.1]
    exact ⟨fit.same rfl rfl rfl rfl rfl fun _ => id, grows.trans (.same rfl rfl)⟩
  | @detached out v leaving table =>
    rw [table.1]
    exact ⟨epochFit_out (.inl rfl) rfl rfl, .same rfl rfl⟩
  | left active table =>
    have allowed : dueAllowed s.ctl.state = true := by rw [active]; rfl
    obtain ⟨k, hk, at'⟩ := h.adopted allowed
    rw [table.1]
    exact ⟨epochFit_adopted rfl hk at' (h.roster_none allowed), .same rfl rfl⟩
  | @adopted epoch members u v working best queued only sound table =>
    have key : u.census.bestKey = s.census.bestKey := by rcases queued with rfl | ⟨-, rfl⟩ <;> rfl
    rw [only]
    exact h.adopted_move working best rfl key rfl rfl

theorem EpochFit.moves (h : EpochFit s) (m : Moves s t) : EpochStep s t := by
  induction m with
  | refl => exact ⟨h, .same rfl rfl⟩
  | tail _ m ih =>
    obtain ⟨fit, grows⟩ := ih.1.move m
    exact ⟨fit, ih.2.trans grows⟩

theorem EpochFit.departsBallot (h : EpochFit s) {x : InSend} {b : Ballot} {i : SlotNo} {r : Record}
    (d : DepartsBallot s t x b i r) : EpochStep s t := by
  rw [d.out]
  have ctl : (countDeparture (departed x s)).ctl = s.ctl := departed_ctl x s
  exact h.stay (departed_census x s) (congrArg (fun c : Controller => c.config.stationId) ctl)
    (congrArg Controller.state ctl) fun _ => departed_origination

theorem EpochFit.stationRun (h : EpochFit s) (m : StationRun s t) : EpochStep s t := by
  cases m with
  | moves m => exact h.moves m
  | configured c fresh unborn out => exact out ▸ h.configured c unborn
  | ballot d => exact h.departsBallot d

theorem EpochFit.runs (h : EpochFit s) (m : Runs s t) : EpochStep s t := by
  obtain ⟨before, after, u, run, rfl⟩ := m
  have start : EpochFit { s with host := before } := h.same rfl rfl rfl rfl rfl fun _ => id
  obtain ⟨fit, grows⟩ := start.stationRun run
  exact ⟨fit.same rfl rfl rfl rfl rfl fun _ => id, grows.epoch, grows.best⟩

theorem Restarted.epochFit (h : Restarted s t) : EpochFit t := by
  obtain ⟨cause, h⟩ := h.values
  rw [h]
  exact ⟨fun _ => ⟨rfl, rfl⟩, nofun, nofun, nofun, fun _ => nofun⟩

end

/-- Settles O58, move by move. -/
theorem epochNeverDecreases : Obligations.EpochNeverDecreases := by
  refine ⟨fun s t h stepped => ?_, fun c s t h run notPin notHost => ?_⟩
  · obtain ⟨pending, runs | restarted⟩ := step_leads stepped
    · have fit : EpochFit { s with pending := pending } := h.same rfl rfl rfl rfl rfl fun _ => id
      exact (fit.runs runs).1
    · exact restarted.epochFit
  · obtain ⟨-, grows⟩ := h.runs (exec_runs run notPin notHost)
    exact ⟨BitVec.le_def.1 grows.epoch, grows.best⟩

end Sys2Proof.Machine
end

section
/-! PROOF. The fence, the station-level dues, the timers, the leave outcome and the halt cause stand only in their station
states, and while RESETN is low every item has its reset value (R78, R91, R94, R143 to R145, R147, R158, R160, R163). -/

namespace Sys2Proof.Machine

section
variable {s t u v w : State}

/-! ### While RESETN is low -/

/-- The part held in reset, with commands waiting. -/
def heldWith (waiting : List Instr) : State := { State.heldReset with pending := waiting }

theorem transact_held (k : Transaction) (e : SpiEvent) (waiting : List Instr) :
    transact k e (heldWith waiting) = heldWith waiting := by
  cases e <;> rfl

theorem expireSlot_held (i : SlotNo) (due : Record → Bool) (act : Record → State → Reading) (waiting : List Instr) :
    expireSlot i due act (heldWith waiting) = heldWith waiting := by
  have free : ((heldWith waiting).table.get i).content = none := by
    simp [heldWith, State.heldReset, State.afterReset, Slot.free]
  unfold expireSlot
  rw [free]

theorem lockRows_held (port : Port) (waiting : List Instr) :
    (∀ groups, execReceiveLockGained port groups (heldWith waiting) = .next (heldWith waiting)) ∧
    (∀ cause, execReceiveLockLost port cause (heldWith waiting) = .next (heldWith waiting)) ∧
    (∀ inFrame g, execFarLockSet port inFrame g (heldWith waiting) = .next (heldWith waiting)) ∧
    execFarLockClear port (heldWith waiting) = .next (heldWith waiting) := by
  cases port
  all_goals refine ⟨fun _ => ?_, fun _ => ?_, fun _ _ => ?_, rfl⟩
  all_goals exact congrArg Host.Outcome.next (ite_self _)

/-- Until RESETN rises no other command changes anything (R163). -/
theorem exec_held {c : Instr} (notPin : c ≠ .resetn) (waiting : List Instr) :
    exec c (heldWith waiting) = .next (heldWith waiting) := by
  cases c
  case resetn => exact absurd rfl notPin
  case stationReset e => exact congrArg _ (transact_held _ e waiting)
  case writeCommand e => exact congrArg _ (transact_held _ e waiting)
  case readResult e => exact congrArg _ (transact_held _ e waiting)
  case readStatus e => exact congrArg _ (transact_held _ e waiting)
  case writeIndex e => exact congrArg _ (transact_held _ e waiting)
  case readWindow e => exact congrArg _ (transact_held _ e waiting)
  case ballotTimerExpiry i => exact congrArg _ (expireSlot_held ..)
  case waitLimitExpiry i => exact congrArg _ (expireSlot_held ..)
  case termExpiry i => exact congrArg _ (expireSlot_held ..)
  case shadowTimerExpiry i => exact congrArg _ (expireSlot_held ..)
  case receiveLockGained port groups => exact (lockRows_held port waiting).1 groups
  case receiveLockLost port cause => exact (lockRows_held port waiting).2.1 cause
  case farLockSet port inFrame g => exact (lockRows_held port waiting).2.2.1 inFrame g
  case farLockClear port => exact (lockRows_held port waiting).2.2.2
  all_goals rfl

/-! ### The units against the station state -/

/-- The fence, the dues, the timers, the leave outcome and the halt cause against the station state. -/
structure UnitsStand (s : State) : Prop where
  fence : s.shadow.fence.isSome → s.ctl.state = .active ∨ s.ctl.state = .forming ∨ s.ctl.state = .leaving
  objected : s.shadow.fenceObjected = true → s.shadow.fence.isSome
  incomplete : s.shadow.incomplete = true →
    s.ctl.state = .active ∨ s.ctl.state = .forming ∨ s.ctl.state = .leaving
  fenceEnd : s.shadow.fenceEndDue = true → dueAllowed s.ctl.state = true
  census : s.census.censusDue = true → formingOrIsolated s.ctl.state = true
  roster : s.census.rosterDue.isSome → formingOrIsolated s.ctl.state = true
  retry : s.census.retryTimer.isSome → formingOrIsolated s.ctl.state = true
  formation : s.census.formationTimer.isSome ↔ s.ctl.state = .forming
  leaveTimer : s.ctl.leaveTimer.isSome ↔ s.ctl.state = .leaving
  leaveOutcome : s.ctl.leaveOutcome.isSome → s.ctl.state = .detached ∨ s.ctl.state = .halted
  detached : s.ctl.state = .detached → s.ctl.leaveOutcome.isSome
  halted : s.ctl.haltCause.isSome ↔ s.ctl.state = .halted

theorem UnitsFit.stand (h : UnitsFit s) : UnitsStand s :=
  ⟨h.fence, h.objected, h.incomplete, h.fenceEnd, h.census, h.roster, h.retry, h.formation, h.leaveTimer, h.leaveOutcome,
    h.detached, h.halted⟩

theorem UnitsStand.fit (h : UnitsStand s) (held : s.resetn = false → s = { State.heldReset with pending := s.pending }) :
    UnitsFit s :=
  ⟨h.fence, h.objected, h.incomplete, h.fenceEnd, h.census, h.roster, h.retry, h.formation, h.leaveTimer, h.leaveOutcome,
    h.detached, h.halted, held⟩

theorem UnitsStand.same (h : UnitsStand s) (shadow : t.shadow = s.shadow) (census : t.census = s.census)
    (state : t.ctl.state = s.ctl.state) (timer : t.ctl.leaveTimer = s.ctl.leaveTimer)
    (outcome : t.ctl.leaveOutcome = s.ctl.leaveOutcome) (cause : t.ctl.haltCause = s.ctl.haltCause) : UnitsStand t := by
  obtain ⟨h1, h2, h3, h4, h5, h6, h7, h8, h9, h10, h11, h12⟩ := h
  constructor <;> simpa only [shadow, census, state, timer, outcome, cause]

/-- The units of a station that has left the ring, or is not in it. -/
theorem unitsStand_idle (shadow : t.shadow = State.reset.shadow) (censusDue : t.census.censusDue = false)
    (roster : t.census.rosterDue = none) (retry : t.census.retryTimer = none) (formation : t.census.formationTimer = none)
    (timer : t.ctl.leaveTimer = none) (notForming : t.ctl.state ≠ .forming) (notLeaving : t.ctl.state ≠ .leaving)
    (outcome : t.ctl.leaveOutcome.isSome → t.ctl.state = .detached ∨ t.ctl.state = .halted)
    (detached : t.ctl.state = .detached → t.ctl.leaveOutcome.isSome)
    (halted : t.ctl.haltCause.isSome ↔ t.ctl.state = .halted) : UnitsStand t := by
  refine ⟨?_, ?_, ?_, ?_, ?_, ?_, ?_, ?_, ?_, outcome, detached, halted⟩ <;>
    simp [shadow, censusDue, roster, retry, formation, timer, notForming, notLeaving, State.reset, State.afterReset]

theorem UnitsStand.quiet (h : UnitsStand s) (allowed : dueAllowed s.ctl.state = true) :
    s.census.censusDue = false ∧ s.census.rosterDue = none ∧ s.census.retryTimer = none ∧ s.census.formationTimer = none := by
  have idle : formingOrIsolated s.ctl.state ≠ true := fun working => by
    rw [not_dueAllowed_of_working working] at allowed
    cases allowed
  have notForming : s.ctl.state ≠ .forming := by rcases dueAllowed_iff.1 allowed with e | e <;> simp [e]
  refine ⟨?_, ?_, ?_, ?_⟩
  · simpa using mt h.census idle
  · simpa using mt h.roster idle
  · simpa using mt h.retry idle
  · simpa using mt h.formation.1 notForming

theorem unitsStand_enterHalted (cause : HaltCause) (u : State) : UnitsStand (enterHalted cause u) :=
  unitsStand_idle rfl rfl rfl rfl rfl rfl nofun nofun (fun _ => .inr rfl) nofun ⟨fun _ => rfl, fun _ => rfl⟩

theorem UnitsStand.detached_move (h : UnitsStand s) (leaving : s.ctl.state = .leaving) (out : LeaveOutcome) :
    UnitsStand (stopCensus (clearShadowUnit (detachedUnits out s))) := by
  have cause : s.ctl.haltCause = none := by
    have := h.halted
    simpa [leaving] using this
  refine unitsStand_idle rfl rfl rfl rfl rfl rfl nofun nofun (fun _ => .inl rfl) (fun _ => rfl) ?_
  change s.ctl.haltCause.isSome = true ↔ StationState.detached = .halted
  simp [cause]

theorem UnitsStand.shadowMove (h : UnitsStand s) {x : ShadowUnit} (m : ShadowMove s x) :
    UnitsStand { s with shadow := x } := by
  have ring : dueAllowed s.ctl.state = true → s.ctl.state = .active ∨ s.ctl.state = .forming ∨ s.ctl.state = .leaving :=
    fun allowed => (dueAllowed_iff.1 allowed).elim .inl fun e => .inr (.inr e)
  cases m with
  | incomplete allowed =>
    exact ⟨h.fence, h.objected, fun _ => ring allowed, h.fenceEnd, h.census, h.roster, h.retry, h.formation,
      h.leaveTimer, h.leaveOutcome, h.detached, h.halted⟩
  | objected fence =>
    exact ⟨h.fence, fun _ => fence, h.incomplete, h.fenceEnd, h.census, h.roster, h.retry, h.formation, h.leaveTimer,
      h.leaveOutcome, h.detached, h.halted⟩
  | ended due owed =>
    exact ⟨nofun, nofun, h.incomplete, fun hd => (owed hd).elim h.fenceEnd id, h.census, h.roster, h.retry, h.formation,
      h.leaveTimer, h.leaveOutcome, h.detached, h.halted⟩
  | served =>
    exact ⟨h.fence, h.objected, h.incomplete, nofun, h.census, h.roster, h.retry, h.formation, h.leaveTimer,
      h.leaveOutcome, h.detached, h.halted⟩

/-- The census unit changes within a station state whose ring forms. -/
theorem UnitsStand.censusMove (h : UnitsStand s) (working : formingOrIsolated s.ctl.state = true) (shadow : t.shadow = s.shadow)
    (ctl : t.ctl = s.ctl) (formation : t.census.formationTimer = s.census.formationTimer) : UnitsStand t := by
  refine ⟨?_, ?_, ?_, ?_, ?_, ?_, ?_, ?_, ?_, ?_, ?_, ?_⟩
  case refine_5 => rw [ctl]; exact fun _ => working
  case refine_6 => rw [ctl]; exact fun _ => working
  case refine_7 => rw [ctl]; exact fun _ => working
  case refine_8 => rw [ctl, formation]; exact h.formation
  all_goals simp only [shadow, ctl]
  · exact h.fence
  · exact h.objected
  · exact h.incomplete
  · exact h.fenceEnd
  · exact h.leaveTimer
  · exact h.leaveOutcome
  · exact h.detached
  · exact h.halted

theorem UnitsStand.ticked (h : UnitsStand s) : UnitsStand (tickUnits s) := by
  have same : ∀ (b : Bool) (x : Option Word16), (if b then x.map countDown else x).isSome = x.isSome := by
    intro b x
    cases b <;> simp
  have same' : ∀ (p : Prop) [Decidable p] (x : Option Word16), (if p then x.map countDown else x).isSome = x.isSome := by
    intro p _ x
    by_cases hp : p <;> simp [hp]
  refine ⟨?_, ?_, h.incomplete, h.fenceEnd, h.census, h.roster, ?_, ?_, ?_, h.leaveOutcome, h.detached, h.halted⟩
  · simpa only [tickUnits, same] using h.fence
  · simpa only [tickUnits, same] using h.objected
  · simpa only [tickUnits, same] using h.retry
  · simpa only [tickUnits, same'] using h.formation
  · simpa only [tickUnits, same'] using h.leaveTimer

/-- The entry to FORMING from ACTIVE (R149). -/
theorem UnitsStand.formed (h : UnitsStand s) (active : s.ctl.state = .active) (fence : t.shadow.fence = s.shadow.fence)
    (objected : t.shadow.fenceObjected = s.shadow.fenceObjected) (fenceEnd : t.shadow.fenceEndDue = false)
    (ctl : t.ctl = { s.ctl with state := .forming }) (formation : t.census.formationTimer.isSome) : UnitsStand t := by
  have state : t.ctl.state = .forming := by rw [ctl]
  have working : formingOrIsolated t.ctl.state = true := by rw [state]; rfl
  refine ⟨fun _ => .inr (.inl state), ?_, fun _ => .inr (.inl state), by simp [fenceEnd], fun _ => working, fun _ => working,
    fun _ => working, by simp [formation, state], ?_, ?_, by simp [state], ?_⟩
  · rw [fence, objected]; exact h.objected
  · have := h.leaveTimer
    rw [ctl]
    simpa [active] using this
  · have := h.leaveOutcome
    rw [ctl]
    simpa [active] using this
  · have := h.halted
    rw [ctl]
    simpa [active] using this

theorem UnitsStand.isolated (h : UnitsStand s) (forming : s.ctl.state = .forming) :
    UnitsStand (clearShadowUnit (isolatedUnits s)) := by
  have timer := h.leaveTimer
  have outcome := h.leaveOutcome
  have cause := h.halted
  refine ⟨nofun, nofun, nofun, nofun, fun _ => rfl, fun _ => rfl, fun _ => rfl, ?_, ?_, ?_, nofun, ?_⟩ <;>
    simp_all [isolatedUnits, clearShadowUnit, flushOrigination, restoreCensusDues]

theorem UnitsStand.left (h : UnitsStand s) (active : s.ctl.state = .active) : UnitsStand (leavingUnits s) := by
  obtain ⟨census, roster, retry, formation⟩ := h.quiet (by rw [active]; rfl)
  have cause := h.halted
  refine ⟨fun _ => .inr (.inr rfl), h.objected, fun _ => .inr (.inr rfl), fun _ => rfl, ?_, ?_, ?_, ?_, ?_, nofun, nofun, ?_⟩ <;>
    simp_all [leavingUnits]

theorem UnitsStand.adopted (h : UnitsStand s) (working : formingOrIsolated s.ctl.state = true) (epoch : Word32)
    (members : List StationId) : UnitsStand (decideFence (adoptBase epoch members s)) := by
  have notOwed : s.shadow.fenceEndDue = false := by
    have := mt h.fenceEnd (by simp [not_dueAllowed_of_working working])
    simpa using this
  have timer := h.leaveTimer
  have outcome := h.leaveOutcome
  have cause := h.halted
  have notLeaving : s.ctl.state ≠ .leaving ∧ s.ctl.state ≠ .detached ∧ s.ctl.state ≠ .halted := by
    refine ⟨?_, ?_, ?_⟩ <;> intro e <;> simp [e, formingOrIsolated] at working
  refine ⟨fun _ => .inl rfl, fun hx => ?_, nofun, ?_, nofun, nofun, nofun, by simp [decideFence, adoptBase], ?_, ?_, nofun, ?_⟩
  · have fence := h.objected hx
    simp only [decideFence]
    split
    · rfl
    · exact fence
  all_goals simp_all [decideFence, adoptBase]

theorem UnitsStand.configured (h : UnitsStand s) (c : Configuration) (unborn : s.ctl.state = .unconfigured) :
    UnitsStand (acceptConfiguration c s) := by
  have fence := h.fence
  have fenceEnd := h.fenceEnd
  have timer := h.leaveTimer
  have outcome := h.leaveOutcome
  have cause := h.halted
  refine ⟨fun _ => .inr (.inl rfl), h.objected, fun _ => .inr (.inl rfl), ?_, fun _ => rfl, nofun, nofun, ?_, ?_, ?_, nofun, ?_⟩ <;>
    simp_all [acceptConfiguration, dueAllowed]

theorem UnitsStand.move (h : UnitsStand s) (m : Move s t) : UnitsStand t := by
  cases m with
  | aside a =>
    rw [a.only]
    exact h.same rfl rfl rfl rfl rfl rfl
  | halt cause u => exact unitsStand_enterHalted _ _
  | turn only sound each =>
    rw [only]
    exact h.same rfl rfl rfl rfl rfl rfl
  | shadowed i identity a free allowed => exact h.same rfl rfl rfl rfl rfl rfl
  | stamp enters active limit => cases enters <;> exact h.same rfl rfl rfl rfl rfl rfl
  | upPort m => exact h.same rfl rfl rfl rfl rfl rfl
  | downPort m => exact h.same rfl rfl rfl rfl rfl rfl
  | downTrained waiting link credit far => exact h.same rfl rfl rfl rfl rfl rfl
  | upLost up link owed far run =>
    unfold lostUp
    simp only
    split <;> exact h.same rfl rfl rfl rfl rfl rfl
  | downLost up link credit far => exact h.same rfl rfl rfl rfl rfl rfl
  | shadowUnit m => exact h.shadowMove m
  | arrived f up room => exact h.same rfl rfl rfl rfl rfl rfl
  | takenOut a => exact h.same rfl rfl rfl rfl rfl rfl
  | takenOn g a => exact h.same rfl rfl rfl rfl rfl rfl
  | scanBegun a ballot allowed => exact h.same rfl rfl rfl rfl rfl rfl
  | scanMoved x running bound => exact h.same rfl rfl rfl rfl rfl rfl
  | scanEnded g running => exact h.same rfl rfl rfl rfl rfl rfl
  | queued f room allowed noBallot => exact h.same rfl rfl rfl rfl rfl rfl
  | censusQueued f room working census => exact h.censusMove working rfl rfl rfl
  | ballotQueued i r room allowed held due clear => exact h.same rfl rfl rfl rfl rfl rfl
  | sendBegun f src position can bound candidate => exact h.same rfl rfl rfl rfl rfl rfl
  | departed sending =>
    exact h.same (departed_shadow ..) (departed_census ..) (by rw [departed_ctl]) (by rw [departed_ctl])
      (by rw [departed_ctl]) (by rw [departed_ctl])
  | keyAccepted k working above => exact h.censusMove working rfl rfl rfl
  | proposed top working room epoch best => exact h.censusMove working rfl rfl rfl
  | rosterOwed d working best => exact h.censusMove working rfl rfl rfl
  | retryTimed timer working => exact h.censusMove working rfl rfl rfl
  | unitsTicked => exact h.ticked
  | @formed u v enters active room table =>
    have entered : UnitsStand u ∧ u.ctl.state = .active := by
      rcases enters with rfl | enters
      · exact ⟨h, active⟩
      · cases enters <;> exact ⟨h.same rfl rfl rfl rfl rfl rfl, active⟩
    obtain ⟨sent, units⟩ := formingUnits_eq v
    rw [units, table.1]
    exact entered.1.formed entered.2 rfl rfl rfl rfl rfl
  | @formedBy k v active newer table =>
    obtain ⟨sent, units⟩ := formingUnits_eq v
    rw [units, table.1]
    refine h.formed active rfl rfl rfl rfl ?_
    simp only [withCensus]
    split <;> rfl
  | @isolated v forming table =>
    rw [table.1]
    exact (h.isolated forming).same rfl rfl rfl rfl rfl rfl
  | @detached out v leaving table =>
    rw [table.1]
    exact (h.detached_move leaving out).same rfl rfl rfl rfl rfl rfl
  | left active table =>
    rw [table.1]
    exact (h.left active).same rfl rfl rfl rfl rfl rfl
  | @adopted epoch members u v working best queued only sound table =>
    have entered : UnitsStand u ∧ u.ctl = s.ctl := by
      rcases queued with rfl | ⟨-, rfl⟩
      · exact ⟨h, rfl⟩
      · exact ⟨h.same rfl rfl rfl rfl rfl rfl, rfl⟩
    rw [only]
    exact (entered.1.adopted (by rw [entered.2]; exact working) epoch members).same rfl rfl rfl rfl rfl rfl

theorem UnitsStand.moves (h : UnitsStand s) (m : Moves s t) : UnitsStand t := by
  induction m with
  | refl => exact h
  | tail _ m ih => exact ih.move m

theorem UnitsStand.stationRun (h : UnitsStand s) (m : StationRun s t) : UnitsStand t := by
  cases m with
  | moves m => exact h.moves m
  | configured c fresh unborn out => exact out ▸ h.configured c unborn
  | @ballot x b i r d =>
    have ctl : (countDeparture (departed x s)).ctl = s.ctl := departed_ctl x s
    rw [d.out]
    exact h.same (departed_shadow ..) (departed_census ..) (congrArg _ ctl) (congrArg _ ctl) (congrArg _ ctl) (congrArg _ ctl)

theorem UnitsStand.runs (h : UnitsStand s) (m : Runs s t) : UnitsStand t := by
  obtain ⟨before, after, u, run, rfl⟩ := m
  have start : UnitsStand { s with host := before } := h.same rfl rfl rfl rfl rfl rfl
  exact (start.stationRun run).same rfl rfl rfl rfl rfl rfl

theorem Restarted.unitsStand (h : Restarted s t) : UnitsStand t := by
  obtain ⟨cause, h⟩ := h.values
  rw [h]
  exact unitsStand_idle rfl rfl rfl rfl rfl rfl nofun nofun nofun nofun ⟨nofun, nofun⟩

/-! ### What no move touches -/

/-- What the moves leave: the pin, the waiting commands, the configuration, the host port beside the command queue, which a
halt empties (R160), and HALTED (R161). -/
structure Quiet (s t : State) : Prop where
  resetn : t.resetn = s.resetn
  pending : t.pending = s.pending
  config : t.ctl.config = s.ctl.config
  configured : t.ctl.configured = s.ctl.configured
  halted : s.ctl.state = .halted → t.ctl.state = .halted
  host : t.host = s.host ∨ t.host = { s.host with commands := [] } ∧ t.ctl.state = .halted

theorem Quiet.refl (s : State) : Quiet s s := ⟨rfl, rfl, rfl, rfl, id, .inl rfl⟩

theorem Quiet.trans (h : Quiet s t) (h' : Quiet t u) : Quiet s u := by
  refine ⟨h'.resetn.trans h.resetn, h'.pending.trans h.pending, h'.config.trans h.config, h'.configured.trans h.configured,
    fun halted => h'.halted (h.halted halted), ?_⟩
  rcases h.host with host | ⟨host, halted⟩ <;> rcases h'.host with host' | ⟨host', halted'⟩
  · exact .inl (host'.trans host)
  · exact .inr ⟨by rw [host', host], halted'⟩
  · exact .inr ⟨host'.trans host, h'.halted halted⟩
  · exact .inr ⟨by rw [host', host], halted'⟩

theorem Quiet.of_live (resetn : t.resetn = s.resetn) (pending : t.pending = s.pending) (config : t.ctl.config = s.ctl.config)
    (configured : t.ctl.configured = s.ctl.configured) (host : t.host = s.host) (live : s.ctl.state ≠ .halted) : Quiet s t :=
  ⟨resetn, pending, config, configured, fun halted => absurd halted live, .inl host⟩

theorem quiet_departed (x : InSend) (s : State) : Quiet s (departed x s) := by
  unfold departed chargeCredit leaveAtDeparture
  split
  · exact ⟨rfl, rfl, rfl, rfl, id, .inl rfl⟩
  · split <;> exact ⟨rfl, rfl, rfl, rfl, id, .inl rfl⟩

theorem quiet_formingUnits (v : State) : Quiet v (formingUnits v) := by
  obtain ⟨sent, units⟩ := formingUnits_eq v
  rw [units]
  exact ⟨rfl, rfl, rfl, rfl, id, .inl rfl⟩

theorem Move.quiet (m : Move s t) : Quiet s t := by
  cases m with
  | aside a => rw [a.only]; exact ⟨rfl, rfl, rfl, rfl, id, .inl rfl⟩
  | @halt cause u cut =>
    refine ⟨cut.resetn, cut.pending, cut.config, cut.configured, fun _ => rfl, .inr ⟨?_, rfl⟩⟩
    rw [← cut.host]
    rfl
  | turn only sound each => rw [only]; exact ⟨rfl, rfl, rfl, rfl, id, .inl rfl⟩
  | stamp enters active limit => cases enters <;> exact ⟨rfl, rfl, rfl, rfl, id, .inl rfl⟩
  | upLost up link owed far run =>
    unfold lostUp
    simp only
    split <;> exact ⟨rfl, rfl, rfl, rfl, id, .inl rfl⟩
  | @departed x sending => exact quiet_departed x s
  | @formed u v enters active room table =>
    have live : s.ctl.state ≠ .halted := by simp [active]
    have worked : Quiet s v := by
      rw [table.1]
      rcases enters with rfl | enters
      · exact .of_live rfl rfl rfl rfl rfl live
      · cases enters <;> exact .of_live rfl rfl rfl rfl rfl live
    have proposed : Quiet (formingUnits v) (proposeEpoch (v.census.epoch + 1) (formingUnits v)) :=
      ⟨rfl, rfl, rfl, rfl, id, .inl rfl⟩
    exact (worked.trans (quiet_formingUnits v)).trans proposed
  | @formedBy k v active newer table =>
    have worked : Quiet s v := by
      rw [table.1]
      exact .of_live rfl rfl rfl rfl rfl (by simp [active])
    have accepted : Quiet (formingUnits v) (withCensus (if aboveBest k v.census.bestKey then
        acceptKey k (formingUnits v).census else (formingUnits v).census) (formingUnits v)) :=
      ⟨rfl, rfl, rfl, rfl, id, .inl rfl⟩
    exact (worked.trans (quiet_formingUnits v)).trans accepted
  | isolated forming table =>
    rw [table.1]
    exact .of_live rfl rfl rfl rfl rfl (by simp [forming])
  | detached out leaving table =>
    rw [table.1]
    exact .of_live rfl rfl rfl rfl rfl (by simp [leaving])
  | left active table =>
    rw [table.1]
    exact .of_live rfl rfl rfl rfl rfl (by simp [active])
  | adopted epoch members working best queued only sound table =>
    have live : s.ctl.state ≠ .halted := fun e => by simp [e, formingOrIsolated] at working
    rw [only]
    rcases queued with rfl | ⟨-, rfl⟩ <;> exact .of_live rfl rfl rfl rfl rfl live
  | _ => exact ⟨rfl, rfl, rfl, rfl, id, .inl rfl⟩

theorem Moves.quiet (m : Moves s t) : Quiet s t := by
  induction m with
  | refl => exact .refl s
  | tail _ m ih => exact ih.trans m.quiet

theorem StationRun.resetn_pending (m : StationRun s t) : t.resetn = s.resetn ∧ t.pending = s.pending := by
  cases m with
  | moves m => exact ⟨(Moves.quiet m).resetn, (Moves.quiet m).pending⟩
  | configured c fresh unborn out => rw [out]; exact ⟨rfl, rfl⟩
  | @ballot x b i r d =>
    rw [d.out]
    exact ⟨(quiet_departed x s).resetn, (quiet_departed x s).pending⟩

theorem Runs.resetn_pending (m : Runs s t) : t.resetn = s.resetn ∧ t.pending = s.pending := by
  obtain ⟨before, after, u, run, rfl⟩ := m
  exact run.resetn_pending

theorem Runs.resetn (m : Runs s t) : t.resetn = s.resetn := m.resetn_pending.1

/-- A command that leaves the part held low leaves it in its reset values (R163). -/
theorem exec_holds {c : Instr} (held : s.resetn = false → s = heldWith s.pending) (h : exec c s = .next t)
    (low : t.resetn = false) : t = heldWith t.pending := by
  by_cases notPin : c = .resetn
  · subst notPin
    cases h
    by_cases high : s.resetn = true
    · simp only [high, if_true, heldWith]
    · simp [high, State.afterReset] at low
  · by_cases before : s.resetn = false
    · rw [held before, exec_held notPin] at h
      cases h
      rfl
    · exfalso
      by_cases notHost : ∃ e, c = .stationReset e
      · obtain ⟨e, rfl⟩ := notHost
        cases h
        have same : (transact .stationReset e s).resetn = s.resetn :=
          (stationReset_leads e s).elim (fun h => h.runs.resetn) And.right
        exact before (same.symm.trans low)
      · have same := (exec_runs h notPin (not_exists.1 notHost)).resetn
        exact before (same.symm.trans low)

end

/-- Settles O57, move by move; while RESETN is low nothing moves. -/
theorem unitsKept : Obligations.UnitsKept := by
  intro s t h stepped
  have stands : UnitsStand t := by
    obtain ⟨pending, runs | restarted⟩ := step_leads stepped
    · exact (h.stand.same (t := { s with pending := pending }) rfl rfl rfl rfl rfl rfl).runs runs
    · exact restarted.unitsStand
  refine stands.fit fun low => ?_
  unfold Machine.step at stepped
  split at stepped
  · cases stepped
    have before : s.resetn = false := (Moves.quiet (moves_refclkPeriod s)).resetn.symm.trans low
    have same : refclkPeriod s = s := by simp [refclkPeriod, before]
    rw [same]
    exact h.held before
  · rename_i c rest _
    refine exec_holds (s := { s with pending := rest }) (fun before => ?_) stepped low
    rw [h.held before]
    rfl

end Sys2Proof.Machine
end

section
/-! PROOF. No two own GRANTED records ever conflict (R35, R42, R58). A record is ahead when it is GRANTED or carries a built
ballot; a claim gets ahead only by a clear local scan, and is granted only from there. -/

namespace Sys2Proof.Machine

section
variable {s t u v w : State} {st : StationState} {r q : Record}

/-! ### Stamps -/

theorem precedes_iff (x y : Stamp) : precedes x y = true ↔
    x.epoch < y.epoch ∨ x.epoch = y.epoch ∧ (x.count < y.count ∨ x.count = y.count ∧ x.id < y.id) := by
  simp [precedes]

theorem precedes_total (x y : Stamp) : precedes x y = true ∨ x = y ∨ precedes y x = true := by
  obtain ⟨a, b, c⟩ := x
  obtain ⟨d, e, f⟩ := y
  simp only [precedes_iff, Stamp.mk.injEq, BitVec.lt_def, ← BitVec.toNat_inj]
  omega

/-- Two claims of one epoch that stand apart by their counts are ordered by them. -/
theorem precedes_of_not {x y : Stamp} (counts : x.count ≠ y.count) (h : precedes y x = false) : precedes x y = true := by
  rcases precedes_total x y with h' | rfl | h'
  · exact h'
  · exact absurd rfl counts
  · rw [h] at h'
    cases h'

/-! ### The ranks of an adoption -/

/-- A waiting record's rank is above that of every record its place comes after (R9). -/
theorem waitingBefore_lt_of_before {t : Table} {i j : SlotNo} (hr : (t.get i).content = some r)
    (waiting : ownWaiting r = true)
    (before : precedes r.identity q.identity = true ∨ r.identity = q.identity ∧ i < j) :
    waitingBefore t i r < waitingBefore t j q := by
  rcases before with before | ⟨same, lower⟩
  · exact waitingBefore_strict hr waiting before
  · refine countP_lt_of_witness (a := i) (fun k hk => ?_) (List.mem_finRange i) ?_ ?_
    · cases hc : (t.get k).content with
      | none => simp [Slot.holds, hc] at hk
      | some x =>
        simp only [Slot.holds, hc, Option.any_some, Bool.and_eq_true, Bool.or_eq_true, beq_iff_eq,
          decide_eq_true_eq] at hk ⊢
        rw [← same]
        exact ⟨hk.1, hk.2.imp id (And.imp id fun below => below.trans lower)⟩
    · simp [Slot.holds, hr, precedes_irrefl]
    · simp [Slot.holds, hr, waiting, same, lower]

/-- The records that wait have different ranks. -/
theorem waitingBefore_ne {t : Table} {i j : SlotNo} (hij : i ≠ j) (hr : (t.get i).content = some r)
    (hq : (t.get j).content = some q) (waits : ownWaiting r = true) (waits' : ownWaiting q = true) :
    waitingBefore t i r ≠ waitingBefore t j q := by
  rcases precedes_total r.identity q.identity with h | same | h
  · exact (waitingBefore_lt_of_before hr waits (.inl h)).ne
  · rcases lt_or_gt_of_ne hij with lower | lower
    · exact (waitingBefore_lt_of_before hr waits (.inr ⟨same, lower⟩)).ne
    · exact (waitingBefore_lt_of_before hq waits' (.inr ⟨same.symm, lower⟩)).ne'
  · exact (waitingBefore_lt_of_before hq waits' (.inl h)).ne'

/-! ### What a turn keeps of a claim -/

/-- What stands of a record's claim: its identity, range and mode. -/
structure SameClaim (r q : Record) : Prop where
  identity : q.identity = r.identity
  range : q.range = r.range
  mode : q.mode = r.mode

/-- A record that is a claim after an event was one before, and one that is ahead was ahead; its claim is the same. -/
structure Behind (r q : Record) : Prop where
  claim : isClaim q → isClaim r
  ahead : isAhead q → isAhead r ∧ (q.state = .pending → r.state = .pending)
  same : isClaim q ∨ isAhead q → SameClaim r q

/-- A record whose kind, state, due and claim are those of another is behind it. -/
theorem behind_of_same (kind : q.kind = r.kind) (state : q.state = r.state)
    (due : r.due = some .ballot → q.due = some .ballot) (same : SameClaim r q) : Behind r q := by
  refine ⟨?_, ?_, fun _ => same⟩
  · unfold isClaim
    rw [kind, state]
    exact id
  · rintro ⟨own, h⟩
    rw [kind] at own
    rw [state] at h ⊢
    exact ⟨⟨own, h.imp id (And.imp id (mt due))⟩, id⟩

/-- A record that is neither is behind any. -/
theorem behind_of_closed (notClaim : ¬ isClaim q) (notAhead : ¬ isAhead q) : Behind r q :=
  ⟨fun h => absurd h notClaim, fun h => absurd h notAhead, fun h => (h.elim notClaim notAhead).elim⟩

theorem not_isClaim_of_retired (h : q.state = .retired) : ¬ isClaim q := by simp [isClaim, h]
theorem not_isAhead_of_retired (h : q.state = .retired) : ¬ isAhead q := by simp [isAhead, h]
theorem not_isClaim_of_shadow (h : q.kind = .shadow) : ¬ isClaim q := by simp [isClaim, h]
theorem not_isAhead_of_shadow (h : q.kind = .shadow) : ¬ isAhead q := by simp [isAhead, h]

/-- A claim that owes its ballot, or waits, is behind the claim it was. -/
theorem behind_of_claim (claim : isClaim r) (notAhead : ¬ isAhead q) (same : SameClaim r q) : Behind r q :=
  ⟨fun _ => claim, fun h => absurd h notAhead, fun _ => same⟩

theorem newIssue_notAhead (r : Record) : ¬ isAhead (newIssue r) := by simp [isAhead, newIssue]

theorem sameClaim_newIssue (r : Record) : SameClaim r (newIssue r) := ⟨rfl, rfl, rfl⟩

@[simp] theorem enterWaiting_state (cause : WaitCause) (r : Record) : (enterWaiting cause r).state = .waiting := by
  unfold enterWaiting; split <;> rfl

@[simp] theorem enterWaiting_due (cause : WaitCause) (r : Record) : (enterWaiting cause r).due = none := by
  unfold enterWaiting; split <;> rfl

theorem sameClaim_enterWaiting (cause : WaitCause) (r : Record) : SameClaim r (enterWaiting cause r) := by
  unfold enterWaiting; split <;> exact ⟨rfl, rfl, rfl⟩

theorem enterWaiting_notAhead (cause : WaitCause) (r : Record) : ¬ isAhead (enterWaiting cause r) := by
  simp [isAhead]

/-- A claim that owes its BALLOT has no ballot timer (R38, R39). -/
def Owes (r : Record) : Prop := r.due = some .ballot → r.mainTimer = none

theorem TableOnly.ctl (h : TableOnly s t) : t.ctl = s.ctl := by rw [h]

/-- No turn gets a record ahead: a grant comes to a record whose ballot was built (R42). -/
theorem Turn.behind (turn : Turn st r q) (fits : RecordFits st r) (owes : Owes r) : Behind r q := by
  have built : r.mainTimer.isSome → r.due ≠ some .ballot := fun timed due => by simp [owes due] at timed
  cases turn with
  | same => exact behind_of_same rfl rfl id ⟨rfl, rfl, rfl⟩
  | woken hit allowed =>
    unfold wakeRecord
    split
    · rename_i own
      split
      · rename_i waiting
        exact behind_of_claim ⟨own.1, .inr waiting⟩ (newIssue_notAhead r) (sameClaim_newIssue r)
      · exact behind_of_same rfl rfl id ⟨rfl, rfl, rfl⟩
      · exact behind_of_same rfl rfl id ⟨rfl, rfl, rfl⟩
    · exact behind_of_same rfl rfl id ⟨rfl, rfl, rfl⟩
  | retired out reason notice k own open' bound held =>
    exact behind_of_closed (not_isClaim_of_retired (retireOwn_state ..)) (not_isAhead_of_retired (retireOwn_state ..))
  | lapsed out reason shadow open' held =>
    exact behind_of_closed (not_isClaim_of_shadow shadow) (not_isAhead_of_shadow shadow)
  | reissued k own pending timed bound =>
    exact behind_of_claim ⟨own, .inl pending⟩ (newIssue_notAhead _) ⟨rfl, rfl, rfl⟩
  | granted term own pending timed =>
    refine ⟨?_, fun _ => ⟨⟨own, .inr ⟨pending, built timed⟩⟩, nofun⟩, fun _ => ⟨rfl, rfl, rfl⟩⟩
    rintro ⟨-, h⟩
    rcases h with h | h <;> cases h
  | waits own pending timed =>
    obtain ⟨identity, range, mode⟩ := sameClaim_enterWaiting .remote { r with lossCount := 0, mainTimer := none }
    exact behind_of_claim ⟨own, .inl pending⟩ (enterWaiting_notAhead _ _) ⟨identity, range, mode⟩
  | blocked due =>
    obtain ⟨-, own, pending⟩ := fits.dues _ due
    exact behind_of_claim ⟨own, .inl pending⟩ (enterWaiting_notAhead _ _) (sameClaim_enterWaiting ..)
  | renewed term active own held =>
    refine ⟨?_, fun _ => ⟨⟨own, .inl held⟩, id⟩, fun _ => ⟨rfl, rfl, rfl⟩⟩
    exact fun claim => ⟨own, claim.2⟩
  | objected => exact behind_of_same rfl rfl id ⟨rfl, rfl, rfl⟩
  | drained kept => exact behind_of_same rfl rfl id ⟨rfl, rfl, rfl⟩
  | served due kept => exact behind_of_same rfl rfl (fun h => absurd h due) ⟨rfl, rfl, rfl⟩
  | refreshed term shadow open' allowed =>
    exact behind_of_closed (not_isClaim_of_shadow shadow) (not_isAhead_of_shadow shadow)
  | tickedOwn warning =>
    obtain ⟨timer, limit, notice, same, -, -⟩ := tickOwn_eq warning r
    rw [same]
    exact behind_of_same rfl rfl id ⟨rfl, rfl, rfl⟩
  | tickedShadow =>
    unfold tickShadow
    split <;> exact behind_of_same rfl rfl id ⟨rfl, rfl, rfl⟩

/-! ### No timer runs for a ballot that is owed -/

/-- A claim that owes its BALLOT has no ballot timer, in every slot. -/
def AllOwe (s : State) : Prop := ∀ i r, s.record i = some r → Owes r

theorem owes_of_due (h : q.due ≠ some .ballot) : Owes q := fun due => absurd due h

theorem retireOwn_owes (out : RecOutcome) (reason : ReleaseReason) (n : Option Notice) (r : Record) :
    Owes (retireOwn st out reason n r) := by
  refine owes_of_due fun due => ?_
  obtain ⟨⟨x, hx⟩, -⟩ := retireOwn_release due
  cases hx

theorem Turn.owes (turn : Turn st r q) (fits : RecordFits st r) (owes : Owes r) : Owes q := by
  cases turn with
  | same => exact owes
  | woken hit allowed =>
    unfold wakeRecord
    split
    · split
      · exact fun _ => rfl
      · exact owes
      · exact owes
    · exact owes
  | retired out reason notice k own open' bound held => exact retireOwn_owes _ _ _ _
  | lapsed out reason shadow open' held =>
    refine owes_of_due fun due => ?_
    unfold retireShadow dueIn at due
    simp only at due
    split at due
    · split at due <;> cases due
    · cases due
  | reissued k own pending timed bound => exact fun _ => rfl
  | granted term own pending timed => exact owes_of_due (by simp [grantRecord, setNotice])
  | waits own pending timed => exact owes_of_due (by simp)
  | blocked due => exact owes_of_due (by simp)
  | renewed term active own held => exact owes_of_due (by simp)
  | objected => exact owes
  | drained kept => exact owes
  | served due kept => exact owes_of_due (by simp)
  | refreshed term shadow open' allowed =>
    refine owes_of_due fun due => ?_
    have none' : r.due = none := fits.due_retired open' shadow
    simp [refreshShadow, none'] at due
  | tickedOwn warning =>
    obtain ⟨timer, limit, notice, same, kept, -⟩ := tickOwn_eq warning r
    rw [same]
    intro due
    rw [owes due] at kept
    simpa using kept
  | tickedShadow =>
    unfold tickShadow
    split
    · intro due
      simp [owes due]
    · exact owes

theorem AllOwe.same (h : AllOwe s) (table : t.table = s.table) : AllOwe t := by
  intro i r hr
  exact h i r (by simpa only [State.record, table] using hr)

/-- Where no due mark is a ballot's, nothing is owed. -/
theorem AllOwe.rewritten {f : SlotNo → Record → Option Record} (table : Rewritten f w v)
    (quiet : ∀ i r q, f i r = some q → Owes q) : AllOwe v := by
  intro i q hq
  rw [table.2.2] at hq
  obtain ⟨r, -, hq⟩ := Option.bind_eq_some_iff.1 hq
  exact quiet i r q hq

theorem AllOwe.enters (h : AllOwe s) (enters : Enters s u) : AllOwe u := by
  cases enters with
  | refused => exact h.same rfl
  | entered i c free quota mode range tag noWait limit claim =>
    intro j q hq
    rw [record_writeRecord] at hq
    split at hq
    · cases hq
      rcases claim with rfl | rfl
      · exact fun _ => rfl
      · exact owes_of_due (by simp)
    · exact h j q hq

/-- A ballot is owed in ACTIVE and LEAVING alone, and by a PENDING claim, which stands in ACTIVE (R15, R21). -/
theorem AllFit.owe (h : AllFit t) (state : t.ctl.state ≠ .active) : AllOwe t := by
  refine fun i q hq => owes_of_due fun due => ?_
  obtain ⟨-, own, pending⟩ := (h i q hq).dues _ due
  exact state ((h i q hq).pending own pending)

/-- What an adoption makes of one record: a waiting claim is issued anew, a lease is announced, and every other record
keeps its due (R9, R58, R88). -/
theorem adoptRecord_cases (u : State) (epoch : Word32) (members : List StationId) (i : SlotNo) (r : Record) :
    (r.kind = .own ∧ r.state = .waiting ∧ adoptRecord u epoch members i r =
      { newIssue r with
        identity := { epoch := epoch, count := BitVec.ofNat 32 (waitingBefore u.table i r + 1), id := u.stationId }
        issue := 0, lossCount := 0 }) ∨
    (r.kind = .own ∧ r.state = .granted ∧
      adoptRecord u epoch members i r = { r with due := some (.announce .reannounce) }) ∨
    (r.kind = .own ∧ r.state ≠ .waiting ∧ r.state ≠ .granted ∧ adoptRecord u epoch members i r = r) ∨
    (r.kind = .shadow ∧ (adoptRecord u epoch members i r).kind = .shadow ∧
      (adoptRecord u epoch members i r).due = r.due) := by
  unfold adoptRecord
  cases kind : r.kind with
  | own =>
    have same : adoptShadow u.census.roster members u.ctl.config.orphanHold (adoptOwn u.table epoch u.stationId i r) =
        adoptOwn u.table epoch u.stationId i r := by simp [adoptShadow, isLive, kind]
    rw [same]
    unfold adoptOwn
    cases state : r.state <;> simp [kind]
  | shadow =>
    have same : adoptOwn u.table epoch u.stationId i r = r := by simp [adoptOwn, kind]
    rw [same]
    refine .inr (.inr (.inr ⟨rfl, (adoptShadow_kind ..).trans kind, ?_⟩))
    unfold adoptShadow
    split <;> rfl

theorem formingUnits_state (v : State) : (formingUnits v).ctl = v.ctl := by
  obtain ⟨sent, units⟩ := formingUnits_eq v
  rw [units]

theorem AllFit.noBallot (h : AllFit s) (state : s.ctl.state ≠ .active) {i : SlotNo} (hr : s.record i = some r) :
    r.due ≠ some .ballot := by
  intro due
  obtain ⟨-, own, pending⟩ := (h i r hr).dues _ due
  exact state ((h i r hr).pending own pending)

theorem AllOwe.move (h : AllOwe s) (fit : AllFit s) (m : Move s t) : AllOwe t := by
  have after : AllFit t := fit.move m
  cases m with
  | aside a => exact h.same (by rw [a.only])
  | halt cause u => exact after.owe fun e => nomatch e
  | turn only sound each =>
    intro i q hq
    obtain ⟨r, hr, turn⟩ := each i q hq
    exact turn.owes (fit i r hr) (h i r hr)
  | shadowed i identity a free allowed =>
    intro j q hq
    rw [record_writeRecord] at hq
    split at hq
    · cases hq
      exact owes_of_due (by simp [newShadow])
    · exact h j q hq
  | stamp enters active limit => exact h.enters enters
  | upLost up link owed far run =>
    unfold lostUp
    simp only
    split <;> exact h.same rfl
  | ballotQueued i r room allowed held due clear =>
    intro j q hq
    have hq : (writeRecord i { r with due := none } s).record j = some q := hq
    rw [record_writeRecord] at hq
    split at hq
    · cases hq
      exact owes_of_due (by simp)
    · exact h j q hq
  | departed sending => exact h.same (departed_table ..)
  | formed enters active room table =>
    refine after.owe ?_
    simp [formingUnits_state, table.1.ctl, withState]
  | formedBy k active newer table =>
    refine after.owe ?_
    simp [withCensus, formingUnits_state, table.1.ctl, withState]
  | isolated forming table =>
    refine after.owe ?_
    simp [table.1.ctl, isolatedUnits]
  | detached out leaving table =>
    refine after.owe ?_
    simp [table.1.ctl, detachedUnits]
  | left active table =>
    refine after.owe ?_
    simp [table.1.ctl, leavingUnits]
  | @adopted epoch members u v working best queued only sound table =>
    intro i q hq
    have hq : v.record i = some q := hq
    rw [table] at hq
    obtain ⟨r, hr, rfl⟩ := Option.map_eq_some_iff.1 hq
    have notActive : s.ctl.state ≠ .active := by
      intro e
      simp [e, formingOrIsolated] at working
    have none' := fit.noBallot notActive hr
    rcases adoptRecord_cases s epoch members i r with ⟨-, -, same⟩ | ⟨-, -, same⟩ | ⟨-, -, -, same⟩ | ⟨-, -, due⟩
    · rw [same]
      exact fun _ => rfl
    · rw [same]
      exact owes_of_due (by simp)
    · rw [same]
      exact owes_of_due none'
    · exact owes_of_due (due ▸ none')
  | _ => exact h.same rfl

/-! ### The grants apart -/

/-- Records that come from records of their slots, behind them, keep the grants apart. -/
theorem GrantsApart.behind (h : GrantsApart s) (state : t.ctl.state = s.ctl.state)
    (epoch : t.census.epoch = s.census.epoch) (clock : s.clock ≤ t.clock)
    (each : ∀ i q, t.record i = some q → isClaim q ∨ isAhead q → ∃ r, s.record i = some r ∧ Behind r q) :
    GrantsApart t := by
  refine ⟨fun i j r q hij hr hq ar aq => ?_, fun i j r q hij hr hq ar pending cq conflict => ?_,
    fun active i r hr cr => ?_, fun active i j r q hij hr hq cr cq => ?_⟩
  · obtain ⟨r', hr', br⟩ := each i r hr (.inr ar)
    obtain ⟨q', hq', bq⟩ := each j q hq (.inr aq)
    have same := br.same (.inr ar)
    have same' := bq.same (.inr aq)
    have apart := h.apart i j r' q' hij hr' hq' (br.ahead ar).1 (bq.ahead aq).1
    unfold inConflict at apart ⊢
    rwa [same.range, same.mode, same'.range, same'.mode]
  · obtain ⟨r', hr', br⟩ := each i r hr (.inr ar)
    obtain ⟨q', hq', bq⟩ := each j q hq (.inl cq)
    have same := br.same (.inr ar)
    have same' := bq.same (.inl cq)
    unfold inConflict at conflict
    rw [same.range, same.mode, same'.range, same'.mode] at conflict
    rw [same.identity, same'.identity]
    exact h.ahead i j r' q' hij hr' hq' (br.ahead ar).1 ((br.ahead ar).2 pending) (bq.claim cq) conflict
  · obtain ⟨r', hr', br⟩ := each i r hr (.inl cr)
    obtain ⟨stampEpoch, count, limit⟩ := h.stamps (state ▸ active) i r' hr' (br.claim cr)
    rw [(br.same (.inl cr)).identity, epoch]
    exact ⟨stampEpoch, BitVec.le_trans count clock, limit⟩
  · obtain ⟨r', hr', br⟩ := each i r hr (.inl cr)
    obtain ⟨q', hq', bq⟩ := each j q hq (.inl cq)
    rw [(br.same (.inl cr)).identity, (bq.same (.inl cq)).identity]
    exact h.distinct (state ▸ active) i j r' q' hij hr' hq' (br.claim cr) (bq.claim cq)

theorem Behind.refl (r : Record) : Behind r r := behind_of_same rfl rfl id ⟨rfl, rfl, rfl⟩

theorem GrantsApart.same (h : GrantsApart s) (table : t.table = s.table) (state : t.ctl.state = s.ctl.state)
    (epoch : t.census.epoch = s.census.epoch) (clock : s.clock ≤ t.clock) : GrantsApart t := by
  refine h.behind state epoch clock fun i q hq _ => ⟨q, ?_, Behind.refl q⟩
  simpa only [State.record, table] using hq

/-- Out of ACTIVE and FORMING no own record is open, and there is nothing to keep apart. -/
theorem AllFit.apart (h : AllFit t) (notActive : t.ctl.state ≠ .active) (notForming : t.ctl.state ≠ .forming) :
    GrantsApart t := by
  have none' : ∀ {i : SlotNo} {r : Record}, t.record i = some r → ¬ isClaim r ∧ ¬ isAhead r := by
    intro i r hr
    have closed : r.kind = .own → r.state = .retired := fun own => by
      by_contra open'
      exact ((h i r hr).open_own own open').elim notActive notForming
    refine ⟨fun claim => ?_, fun ahead => ?_⟩
    · have := closed claim.1
      have := claim.2
      simp_all
    · have := closed ahead.1
      have := ahead.2
      simp_all
  exact ⟨fun i j r q _ hr _ ar => absurd ar (none' hr).2, fun i j r q _ hr _ ar => absurd ar (none' hr).2,
    fun active => absurd active notActive, fun active => absurd active notActive⟩

/-- In FORMING no ballot is built, and the leases are those of the state before (R56). -/
theorem GrantsApart.formed (h : GrantsApart s) (fit : AllFit t) (forming : t.ctl.state = .forming)
    (each : ∀ i q, t.record i = some q → q.kind = .own → q.state = .granted → ∃ r, s.record i = some r ∧ r.kind = .own ∧
      r.state = .granted ∧ SameClaim r q) : GrantsApart t := by
  have granted : ∀ {i : SlotNo} {r : Record}, t.record i = some r → isAhead r → r.state = .granted := by
    intro i r hr ahead
    rcases ahead.2 with granted | ⟨pending, -⟩
    · exact granted
    · have := (fit i r hr).pending ahead.1 pending
      rw [forming] at this
      cases this
  refine ⟨fun i j r q hij hr hq ar aq => ?_, fun i j r q hij hr hq ar pending => ?_, fun active => ?_, fun active => ?_⟩
  · obtain ⟨r', hr', own, state, same⟩ := each i r hr ar.1 (granted hr ar)
    obtain ⟨q', hq', own', state', same'⟩ := each j q hq aq.1 (granted hq aq)
    have apart := h.apart i j r' q' hij hr' hq' ⟨own, .inl state⟩ ⟨own', .inl state'⟩
    unfold inConflict at apart ⊢
    rwa [same.range, same.mode, same'.range, same'.mode]
  · have := granted hr ar
    rw [pending] at this
    cases this
  all_goals
    rw [forming] at active
    cases active

theorem formingOwn_granted (hq : clearDue (formingOwn r) = some q) (own : q.kind = .own) (granted : q.state = .granted) :
    r.kind = .own ∧ r.state = .granted ∧ SameClaim r q := by
  obtain ⟨rfl, -⟩ := clearDue_eq_some hq
  have own : r.kind = .own := (formingOwn_kind r).symm.trans own
  unfold formingOwn at granted ⊢
  simp only [own, if_true] at granted ⊢
  by_cases pending : r.state = .pending
  · simp [pending] at granted
  · rw [if_neg pending] at granted ⊢
    exact ⟨trivial, granted, rfl, rfl, rfl⟩

theorem GrantsApart.formedTable (h : GrantsApart u) (fit : AllFit t) (forming : t.ctl.state = .forming)
    (table : Rewritten (fun _ r => clearDue (formingOwn r)) (withState .forming u) v) (same : t.table = v.table) :
    GrantsApart t := by
  refine h.formed fit forming fun i q hq own granted => ?_
  have hq : v.record i = some q := by simpa only [State.record, same] using hq
  rw [table.2.2] at hq
  obtain ⟨r, hr, hq⟩ := Option.bind_eq_some_iff.1 hq
  exact ⟨r, hr, formingOwn_granted hq own granted⟩

/-! ### A claim entered -/

/-- A claim that is stamped within the limit of R11 is stamped above the clock (R8). -/
theorem stampClock_above {clock : Word32} (limit : stampClock clock ≤ Config.clockLimit) : clock < stampClock clock := by
  unfold stampClock at limit ⊢
  split
  · rename_i full
    rw [if_pos full] at limit
    exact absurd limit (by decide)
  · rename_i room
    simp only [Config.maxWord32] at room
    bv_omega

/-- The claim that enters owes its ballot, or waits, under the next stamp. -/
structure IsEntered (s : State) (c : Record) : Prop where
  behind : ¬ isAhead c
  identity : c.identity = nextStamp s

theorem isEntered (stamp : Stamp) (hs : stamp = nextStamp s) (mode : Mode) (range : Range) (tag : Word16) (noWait : Bool)
    (limit : Word16) (claim : q = newClaim stamp mode range tag noWait limit ∨
      q = enterWaiting .localScan (newClaim stamp mode range tag noWait limit)) : IsEntered s q := by
  rcases claim with rfl | rfl
  · exact ⟨by simp [isAhead, newClaim], hs⟩
  · exact ⟨by simp [isAhead], (sameClaim_enterWaiting ..).identity.trans hs⟩

/-- A lease is never one that enters. -/
theorem Enters.granted (enters : Enters s u) {i : SlotNo} (hr : u.record i = some r) (granted : r.state = .granted) :
    s.record i = some r := by
  cases enters with
  | refused => exact hr
  | entered k c free quota mode range tag noWait limit claim =>
    rw [record_writeRecord] at hr
    split at hr
    · cases hr
      rcases claim with rfl | rfl
      · cases granted
      · simp at granted
    · exact hr

theorem GrantsApart.entered (h : GrantsApart s) (enters : Enters s u) (active : s.ctl.state = .active)
    (limit : u.clock ≤ Config.clockLimit) : GrantsApart u := by
  cases enters with
  | refused => exact h.same rfl rfl rfl (stamped_le s)
  | entered k c free quota mode range tag noWait wait claim =>
    have entered := isEntered _ rfl mode range tag noWait wait claim
    have limit : stampClock s.clock ≤ Config.clockLimit := limit
    have above : s.clock < stampClock s.clock := stampClock_above limit
    have old : ∀ {i : SlotNo} {r : Record}, (writeRecord k c (stamped s)).record i = some r → i ≠ k → s.record i = some r := by
      intro i r hr hik
      rw [record_writeRecord, if_neg (Ne.symm hik)] at hr
      exact hr
    have new : ∀ {i : SlotNo} {r : Record}, (writeRecord k c (stamped s)).record i = some r → i = k → r = c := by
      rintro i r hr rfl
      rw [record_writeRecord_self] at hr
      exact (Option.some.inj hr).symm
    have below : ∀ {i : SlotNo} {r : Record}, s.record i = some r → isClaim r → r.identity.count < stampClock s.clock := by
      intro i r hr cr
      have count := (h.stamps active i r hr cr).2.1
      bv_omega
    refine ⟨fun i j r q hij hr hq ar aq => ?_, fun i j r q hij hr hq ar pending cq conflict => ?_,
      fun _ i r hr cr => ?_, fun _ i j r q hij hr hq cr cq => ?_⟩
    · have hik : i ≠ k := fun e => entered.behind (new hr e ▸ ar)
      have hjk : j ≠ k := fun e => entered.behind (new hq e ▸ aq)
      exact h.apart i j r q hij (old hr hik) (old hq hjk) ar aq
    · have hik : i ≠ k := fun e => entered.behind (new hr e ▸ ar)
      have claim : isClaim r := ⟨ar.1, .inl pending⟩
      by_cases hjk : j = k
      · rw [new hq hjk, entered.identity, precedes_iff]
        exact .inr ⟨(h.stamps active i r (old hr hik) claim).1, .inl (below (old hr hik) claim)⟩
      · exact h.ahead i j r q hij (old hr hik) (old hq hjk) ar pending cq conflict
    · by_cases hik : i = k
      · rw [new hr hik, entered.identity]
        exact ⟨rfl, BitVec.le_refl _, limit⟩
      · obtain ⟨epoch, count, bound⟩ := h.stamps active i r (old hr hik) cr
        exact ⟨epoch, BitVec.le_trans count (stamped_le s), bound⟩
    · by_cases hik : i = k
      · have hjk : j ≠ k := fun e => hij (hik.trans e.symm)
        rw [new hr hik, entered.identity]
        exact fun e => absurd (below (old hq hjk) cq) (by rw [← e]; exact BitVec.lt_irrefl _)
      · by_cases hjk : j = k
        · rw [new hq hjk, entered.identity]
          exact fun e => absurd (below (old hr hik) cr) (by rw [e]; exact BitVec.lt_irrefl _)
        · exact h.distinct active i j r q hij (old hr hik) (old hq hjk) cr cq

/-! ### A ballot built -/

/-- A claim that is not in the way of another in conflict with it comes after it (R35). -/
theorem precedes_of_clear {stamp : Stamp} {range : Range} {mode : Mode} (claim : isClaim q)
    (conflict : conflicts range mode q.range q.mode = true) (clear : standsInTheWay stamp range mode q = false) :
    precedes q.identity stamp = false := by
  obtain ⟨own, state⟩ := claim
  rw [conflicts_comm] at conflict
  rcases state with e | e <;> simpa [standsInTheWay, conflict, own, e] using clear

/-- A record in conflict that is not in the way is not GRANTED (R35). -/
theorem not_granted_of_clear {stamp : Stamp} {range : Range} {mode : Mode} (own : q.kind = .own)
    (conflict : conflicts range mode q.range q.mode = true) (clear : standsInTheWay stamp range mode q = false) :
    q.state ≠ .granted := by
  intro granted
  rw [conflicts_comm] at conflict
  simp [standsInTheWay, conflict, own, granted] at clear

theorem inConflict_comm {r q : Record} (h : inConflict r q) : inConflict q r := by
  unfold inConflict at *
  rwa [conflicts_comm]

/-- A claim's ballot is built when its local scan is clear: it is ahead of every claim in conflict with it (R35, R38). -/
theorem GrantsApart.built (h : GrantsApart s) {k : SlotNo} (held : s.record k = some r) (claim : isClaim r)
    (active : s.ctl.state = .active)
    (clear : ∀ j q, j ≠ k → s.record j = some q → standsInTheWay r.identity r.range r.mode q = false) :
    GrantsApart (writeRecord k { r with due := none } s) := by
  have old : ∀ {i : SlotNo} {x : Record}, (writeRecord k { r with due := none } s).record i = some x → i ≠ k →
      s.record i = some x := by
    intro i x hx hik
    rwa [record_writeRecord, if_neg (Ne.symm hik)] at hx
  have new : ∀ {i : SlotNo} {x : Record}, (writeRecord k { r with due := none } s).record i = some x → i = k →
      x = { r with due := none } := by
    rintro i x hx rfl
    rw [record_writeRecord_self] at hx
    exact (Option.some.inj hx).symm
  /- nothing ahead is in conflict with the claim -/
  have alone : ∀ {j : SlotNo} {q : Record}, j ≠ k → s.record j = some q → isAhead q → ¬ inConflict r q := by
    intro j q hjk hq ahead conflict
    have free := clear j q hjk hq
    have pending : q.state = .pending := (ahead.2.resolve_left (not_granted_of_clear ahead.1 conflict free)).1
    have first := h.ahead j k q r hjk hq held ahead pending claim (inConflict_comm conflict)
    rw [precedes_of_clear ⟨ahead.1, .inl pending⟩ conflict free] at first
    cases first
  refine ⟨fun i j x y hij hx hy ax ay => ?_, fun i j x y hij hx hy ax pending cy conflict => ?_, fun _ i x hx cx => ?_,
    fun _ i j x y hij hx hy cx cy => ?_⟩
  · by_cases hik : i = k
    · have hjk : j ≠ k := fun e => hij (hik.trans e.symm)
      rw [new hx hik]
      exact alone hjk (old hy hjk) ay
    · by_cases hjk : j = k
      · rw [new hy hjk]
        exact fun conflict => alone hik (old hx hik) ax (inConflict_comm conflict)
      · exact h.apart i j x y hij (old hx hik) (old hy hjk) ax ay
  · by_cases hik : i = k
    · have hjk : j ≠ k := fun e => hij (hik.trans e.symm)
      rw [new hx hik] at conflict ⊢
      have counts := h.distinct active k j r y (Ne.symm hjk) held (old hy hjk) claim cy
      exact precedes_of_not counts (precedes_of_clear cy conflict (clear j y hjk (old hy hjk)))
    · by_cases hjk : j = k
      · rw [new hy hjk] at conflict
        exact absurd (inConflict_comm conflict) (alone hik (old hx hik) ax)
      · exact h.ahead i j x y hij (old hx hik) (old hy hjk) ax pending cy conflict
  · by_cases hik : i = k
    · rw [new hx hik]
      exact h.stamps active k r held claim
    · exact h.stamps active i x (old hx hik) cx
  · by_cases hik : i = k
    · have hjk : j ≠ k := fun e => hij (hik.trans e.symm)
      rw [new hx hik]
      exact h.distinct active k j r y (Ne.symm hjk) held (old hy hjk) claim cy
    · by_cases hjk : j = k
      · rw [new hy hjk]
        exact h.distinct active i k x r hik (old hx hik) held cx claim
      · exact h.distinct active i j x y hij (old hx hik) (old hy hjk) cx cy

/-! ### An adoption -/

/-- The claims of a station that adopts are its waiting ones, issued anew under their ranks; a lease stays (R9, R58). -/
theorem GrantsApart.adopted (h : GrantsApart s) (fit : AllFit s) (working : formingOrIsolated s.ctl.state = true)
    {epoch : Word32} {members : List StationId} (epoch' : t.census.epoch = epoch)
    (clock : t.clock = BitVec.ofNat 32 (s.table.count ownWaiting))
    (table : ∀ i, t.record i = (s.record i).map (adoptRecord s epoch members i)) : GrantsApart t := by
  have notActive : s.ctl.state ≠ .active := by
    intro e
    simp [e, formingOrIsolated] at working
  /- a claim of the new epoch was a waiting one -/
  have claims : ∀ {i : SlotNo} {q : Record}, t.record i = some q → isClaim q →
      ∃ r, (s.table.get i).content = some r ∧ ownWaiting r = true ∧ ¬ isAhead q ∧ q.identity.epoch = epoch ∧
        q.identity.count = BitVec.ofNat 32 (waitingBefore s.table i r + 1) := by
    intro i q hq claim
    rw [table] at hq
    obtain ⟨r, hr, rfl⟩ := Option.map_eq_some_iff.1 hq
    rcases adoptRecord_cases s epoch members i r with ⟨own, waits, same⟩ | ⟨own, granted, same⟩ |
      ⟨own, notWaiting, -, same⟩ | ⟨-, shadow, -⟩
    · refine ⟨r, hr, by simp [ownWaiting, own, waits], ?_, ?_, ?_⟩ <;> rw [same]
      exact newIssue_notAhead _
    · rw [same] at claim
      have := claim.2
      simp [granted] at this
    · rw [same] at claim
      rcases claim.2 with pending | waits
      · exact absurd ((fit i r hr).pending own pending) notActive
      · exact absurd waits notWaiting
    · exact absurd claim (not_isClaim_of_shadow shadow)
  /- a record that is ahead was a lease -/
  have leases : ∀ {i : SlotNo} {q : Record}, t.record i = some q → isAhead q →
      ∃ r, s.record i = some r ∧ isAhead r ∧ SameClaim r q ∧ q.state ≠ .pending := by
    intro i q hq ahead
    have hq' := hq
    rw [table] at hq'
    obtain ⟨r, hr, rfl⟩ := Option.map_eq_some_iff.1 hq'
    rcases adoptRecord_cases s epoch members i r with ⟨own, waits, same⟩ | ⟨own, granted, same⟩ |
      ⟨own, notWaiting, notGranted, same⟩ | ⟨-, shadow, -⟩
    · rw [same] at ahead
      exact absurd ahead (newIssue_notAhead _)
    · rw [same]
      exact ⟨r, hr, ⟨own, .inl granted⟩, ⟨rfl, rfl, rfl⟩, by simp [granted]⟩
    · rw [same] at ahead
      rcases ahead.2 with granted | ⟨pending, -⟩
      · exact absurd granted notGranted
      · exact absurd ((fit i r hr).pending own pending) notActive
    · exact absurd ahead (not_isAhead_of_shadow shadow)
  have small := count_le s.table ownWaiting
  refine ⟨fun i j r q hij hr hq ar aq => ?_, fun i j r q hij hr hq ar pending => ?_, fun _ i q hq cq => ?_,
    fun _ i j r q hij hr hq cr cq => ?_⟩
  · obtain ⟨r', hr', ar', same, -⟩ := leases hr ar
    obtain ⟨q', hq', aq', same', -⟩ := leases hq aq
    have apart := h.apart i j r' q' hij hr' hq' ar' aq'
    unfold inConflict at apart ⊢
    rwa [same.range, same.mode, same'.range, same'.mode]
  · obtain ⟨-, -, -, -, notPending⟩ := leases hr ar
    exact absurd pending notPending
  · obtain ⟨r, hr, waits, -, stampEpoch, count⟩ := claims hq cq
    have rank := waitingBefore_lt hr waits
    rw [stampEpoch, count, epoch', clock]
    refine ⟨rfl, ?_, ?_⟩
    · rw [BitVec.le_def, BitVec.toNat_ofNat, BitVec.toNat_ofNat]
      omega
    · rw [BitVec.le_def, BitVec.toNat_ofNat]
      change _ ≤ 4294967040
      omega
  · obtain ⟨r', hr', waits, -, -, count⟩ := claims hr cr
    obtain ⟨q', hq', waits', -, -, count'⟩ := claims hq cq
    have rank := waitingBefore_lt hr' waits
    have rank' := waitingBefore_lt hq' waits'
    have different := waitingBefore_ne hij hr' hq' waits waits'
    rw [count, count']
    intro same
    have := congrArg BitVec.toNat same
    rw [BitVec.toNat_ofNat, BitVec.toNat_ofNat] at this
    omega

/-! ### The grants are kept apart -/

theorem GrantsApart.move (h : GrantsApart s) (fit : AllFit s) (owe : AllOwe s) (m : Move s t) : GrantsApart t := by
  have after : AllFit t := fit.move m
  cases m with
  | aside a =>
    refine h.same (by rw [a.only]) (by rw [a.only]) (by rw [a.only]) a.clock
  | halt cause u => exact after.apart (fun e => nomatch e) fun e => nomatch e
  | turn only sound each =>
    refine h.behind (by rw [only]) (by rw [only]) (by rw [only]; exact BitVec.le_refl _) fun i q hq _ => ?_
    obtain ⟨r, hr, turn⟩ := each i q hq
    exact ⟨r, hr, turn.behind (fit i r hr) (owe i r hr)⟩
  | shadowed i identity a free allowed =>
    refine h.behind rfl rfl (BitVec.le_refl _) fun j q hq live => ?_
    rw [record_writeRecord] at hq
    split at hq
    · cases hq
      exact (live.elim (not_isClaim_of_shadow rfl) (not_isAhead_of_shadow rfl)).elim
    · exact ⟨q, hq, Behind.refl q⟩
  | stamp enters active limit => exact h.entered enters active limit
  | upLost up link owed far run =>
    unfold lostUp
    simp only
    split <;> exact h.same rfl rfl rfl (BitVec.le_refl _)
  | ballotQueued i r room allowed held due clear =>
    obtain ⟨-, own, pending⟩ := (fit i r held).dues _ due
    have active := (fit i r held).pending own pending
    have built := h.built held ⟨own, .inl pending⟩ active clear
    exact built.same rfl rfl rfl (BitVec.le_refl _)
  | @departed x sending =>
    exact h.same (departed_table ..) (by rw [departed_ctl]) (by rw [departed_census])
      (BitVec.le_of_eq (departed_clock x s).symm)
  | @formed u v enters active room table =>
    obtain ⟨sent, units⟩ := formingUnits_eq v
    have same : (proposeEpoch (v.census.epoch + 1) (formingUnits v)).table = v.table := by rw [units]; rfl
    have state : (proposeEpoch (v.census.epoch + 1) (formingUnits v)).ctl.state = .forming := by
      simp [formingUnits_state, table.1.ctl, withState]
    refine h.formed after state fun i q hq own granted => ?_
    have hq : v.record i = some q := by simpa only [State.record, same] using hq
    rw [table.2.2] at hq
    obtain ⟨r, hr, hq⟩ := Option.bind_eq_some_iff.1 hq
    obtain ⟨own', granted', claim⟩ := formingOwn_granted hq own granted
    have hr : u.record i = some r := hr
    rcases enters with rfl | enters
    · exact ⟨r, hr, own', granted', claim⟩
    · exact ⟨r, enters.granted hr granted', own', granted', claim⟩
  | @formedBy k v active newer table =>
    obtain ⟨sent, units⟩ := formingUnits_eq v
    refine h.formedTable after ?_ table ?_
    · simp [withCensus, formingUnits_state, table.1.ctl, withState]
    · rw [units]; rfl
  | isolated forming table =>
    exact after.apart (by simp [table.1.ctl, isolatedUnits]) (by simp [table.1.ctl, isolatedUnits])
  | detached out leaving table =>
    exact after.apart (by simp [table.1.ctl, detachedUnits]) (by simp [table.1.ctl, detachedUnits])
  | left active table =>
    exact after.apart (by simp [table.1.ctl, leavingUnits]) (by simp [table.1.ctl, leavingUnits])
  | adopted epoch members working best queued only sound table =>
    refine h.adopted fit working (epoch := epoch) (members := members) ?_ ?_ table <;> rw [only] <;> rfl
  | _ => exact h.same rfl rfl rfl (BitVec.le_refl _)

/-- The grants stay apart along a run of moves, the records fitting and no timer running for a ballot that is owed. -/
theorem GrantsApart.moves (h : GrantsApart s) (fit : AllFit s) (owe : AllOwe s) (m : Moves s t) : GrantsApart t := by
  suffices AllFit t ∧ AllOwe t ∧ GrantsApart t from this.2.2
  induction m with
  | refl => exact ⟨fit, owe, h⟩
  | tail _ m ih =>
    obtain ⟨fit, owe, h⟩ := ih
    exact ⟨fit.move m, owe.move fit m, h.move fit owe m⟩

/-- The record that gets its ballot timer stands as it stood beside the timer. -/
theorem DepartsBallot.record {x : InSend} {b : Ballot} {k : SlotNo} (d : DepartsBallot s t x b k r) (i : SlotNo) :
    t.record i = if k = i then some { r with mainTimer := some (s.ctl.config.ballotLimit.setWidth 16) } else s.record i := by
  rw [d.out, record_writeRecord]
  split
  · rfl
  · change (departed x s).record i = _
    rw [departed_record]

theorem GrantsApart.departsBallot (h : GrantsApart s) {x : InSend} {b : Ballot} {k : SlotNo}
    (d : DepartsBallot s t x b k r) : GrantsApart t := by
  have ctl : t.ctl = s.ctl := by rw [d.out]; exact departed_ctl x s
  have census : t.census = s.census := by rw [d.out]; exact departed_census x s
  have clock : t.clock = s.clock := by rw [d.out]; exact departed_clock x s
  refine h.behind (by rw [ctl]) (by rw [census]) (BitVec.le_of_eq clock.symm) fun i q hq _ => ?_
  rw [d.record] at hq
  split at hq
  · rename_i hki
    cases hq
    exact ⟨r, hki ▸ d.held, behind_of_same rfl rfl id ⟨rfl, rfl, rfl⟩⟩
  · exact ⟨q, hq, Behind.refl q⟩

theorem GrantsApart.stationRun (h : GrantsApart s) (fit : AllFit s) (owe : AllOwe s) (m : StationRun s t) : GrantsApart t := by
  have after := fit.stationRun m
  cases m with
  | moves m => exact h.moves fit owe m
  | configured c fresh unborn out =>
    rw [out] at after ⊢
    exact h.formed after rfl fun i q hq own granted => ⟨q, hq, own, granted, rfl, rfl, rfl⟩
  | ballot d => exact h.departsBallot d

theorem GrantsApart.runs (h : GrantsApart s) (fit : AllFit s) (owe : AllOwe s) (m : Runs s t) : GrantsApart t := by
  obtain ⟨before, after, u, run, rfl⟩ := m
  have start : GrantsApart { s with host := before } := h.same rfl rfl rfl (BitVec.le_refl _)
  exact (start.stationRun (fit.same rfl rfl) (owe.same rfl) run).same rfl rfl rfl (BitVec.le_refl _)

end

/-- Settles O60, move by move. -/
theorem ownGrantsNeverConflict : Obligations.OwnGrantsNeverConflict := by
  refine ⟨fun s t records _ ballots h stepped => ?_, fun s i j r q h hij hr hq own own' granted granted' => ?_⟩
  · obtain ⟨pending, runs | restarted⟩ := step_leads stepped
    · have start : GrantsApart { s with pending := pending } := h.same rfl rfl rfl (BitVec.le_refl _)
      exact start.runs (recordsFit_iff.1 records) ballots.owed runs
    · have fit := AllFit.restarted restarted
      obtain ⟨cause, same⟩ := restarted.values
      exact fit.apart (by rw [same]; exact fun e => nomatch e) (by rw [same]; exact fun e => nomatch e)
  · exact h.apart i j r q hij hr hq ⟨own, .inl granted⟩ ⟨own', .inl granted'⟩

end Sys2Proof.Machine
end

section
/-! PROOF. A claim's built ballot stays the one ballot of that claim until it has left, and a claim that owes its BALLOT has no
ballot timer (R37 to R39, R123). -/

namespace Sys2Proof.Machine

section
variable {s t u v w : State} {st : StationState} {r q : Record} {f : Frame} {b : Ballot}

/-! ### What the moves keep of an unsent claim -/

/-- A record that is a claim after an event was the same claim before, and its ballot, if it has not left, has not left. -/
structure KeepsBallot (r q : Record) : Prop where
  claim : isClaim q → isClaim r
  identity : isClaim q → q.identity = r.identity
  unsent : isClaim q → ∀ b, isUnsent b r → isUnsent b q

theorem KeepsBallot.refl (r : Record) : KeepsBallot r r := ⟨id, fun _ => rfl, fun _ _ => id⟩

theorem keepsBallot_of_closed (h : ¬ isClaim q) : KeepsBallot r q :=
  ⟨fun c => absurd c h, fun c => absurd c h, fun c => absurd c h⟩

/-- A turn that a claim with a built ballot does not take. -/
theorem keepsBallot_of_sent (behind : Behind r q) (sent : ∀ b, ¬ isUnsent b r) : KeepsBallot r q :=
  ⟨behind.claim, fun c => (behind.same (.inl c)).identity, fun _ b h => absurd h (sent b)⟩

/-- A turn that leaves state, due, ballot timer and issue. -/
theorem keepsBallot_of_same (behind : Behind r q)
    (unsent : ∀ b, isUnsent b r → isUnsent b q) : KeepsBallot r q :=
  ⟨behind.claim, fun c => (behind.same (.inl c)).identity, fun _ => unsent⟩

theorem Turn.keepsBallot (turn : Turn st r q) (fits : RecordFits st r) (owes : Owes r) : KeepsBallot r q := by
  have behind := turn.behind fits owes
  cases turn with
  | same => exact KeepsBallot.refl r
  | woken hit allowed =>
    refine keepsBallot_of_same behind fun b unsent => ?_
    unfold wakeRecord
    split
    · simp only [unsent.1]
      exact ⟨rfl, unsent.2⟩
    · exact unsent
  | retired out reason notice k own open' bound held => exact keepsBallot_of_closed (not_isClaim_of_retired (retireOwn_state ..))
  | lapsed out reason shadow open' held => exact keepsBallot_of_closed (not_isClaim_of_shadow shadow)
  | reissued k own pending timed bound => exact keepsBallot_of_sent behind fun b unsent => by simp [unsent.2.2.1] at timed
  | granted term own pending timed => exact keepsBallot_of_sent behind fun b unsent => by simp [unsent.2.2.1] at timed
  | waits own pending timed => exact keepsBallot_of_sent behind fun b unsent => by simp [unsent.2.2.1] at timed
  | blocked due => exact keepsBallot_of_sent behind fun b unsent => unsent.2.1 due
  | renewed term active own held => exact keepsBallot_of_sent behind fun b unsent => by simp [unsent.1] at held
  | objected => exact keepsBallot_of_same behind fun b unsent => unsent
  | drained kept => exact keepsBallot_of_same behind fun b unsent => unsent
  | served due kept =>
    exact keepsBallot_of_same behind fun b unsent => ⟨unsent.1, by simp, unsent.2.2⟩
  | refreshed term shadow open' allowed => exact keepsBallot_of_closed (not_isClaim_of_shadow shadow)
  | tickedOwn warning =>
    refine keepsBallot_of_same behind fun b unsent => ?_
    obtain ⟨timer, limit, notice, same, kept, -⟩ := tickOwn_eq warning r
    rw [same]
    rw [unsent.2.2.1] at kept
    exact ⟨unsent.1, unsent.2.1, by simpa using kept, unsent.2.2.2⟩
  | tickedShadow =>
    refine keepsBallot_of_same behind fun b unsent => ?_
    unfold tickShadow
    split
    · exact ⟨unsent.1, unsent.2.1, by simp [unsent.2.2.1], unsent.2.2.2⟩
    · exact unsent

/-! ### The built ballots -/

/-- The frame in send is one that was in send, as far as it has left the origination queue. -/
def SameSend (send send' : Option InSend) : Prop :=
  ∀ x, send' = some x → x.source = .origination → x.left = true →
    ∃ y, send = some y ∧ y.source = .origination ∧ y.left = true ∧ y.frame = x.frame

theorem SameSend.refl (send : Option InSend) : SameSend send send := fun x hx source left => ⟨x, hx, source, left, rfl⟩

theorem sameSend_none (send : Option InSend) : SameSend send none := nofun

/-- Within a station state, with no more queued and every claim the same claim. -/
theorem BallotsFit.kept (h : BallotsFit s) (own : t.fh.origination.Sublist s.fh.origination)
    (send : SameSend s.fh.inSend t.fh.inSend) (state : t.ctl.state = s.ctl.state)
    (epoch : t.census.epoch = s.census.epoch) (clock : s.clock ≤ t.clock) (owe : AllOwe t)
    (each : ∀ i q, t.record i = some q → isClaim q →
      (∃ r, s.record i = some r ∧ KeepsBallot r q) ∨ s.clock < q.identity.count) : BallotsFit t := by
  refine ⟨fun f hf b hb => ?_, h.once.sublist own, fun active f hf b hb i q hq claim count => ?_,
    fun x hx source left b hb => ?_, owe⟩
  · obtain ⟨allowed, at', below⟩ := h.queued f (own.subset hf) b hb
    rw [state, epoch]
    exact ⟨allowed, at', BitVec.le_trans below clock⟩
  · rcases each i q hq claim with ⟨r, hr, keeps⟩ | above
    · rw [keeps.identity claim] at count
      exact keeps.unsent claim b (h.unsent (state ▸ active) f (own.subset hf) b hb i r hr (keeps.claim claim) count)
    · have below := (h.queued f (own.subset hf) b hb).2.2
      bv_omega
  · obtain ⟨y, hy, source', left', frame⟩ := send x hx source left
    rw [← frame] at hb ⊢
    rw [epoch, state]
    exact h.left y hy source' left' b hb

theorem BallotsFit.same (h : BallotsFit s) (table : t.table = s.table) (own : t.fh.origination = s.fh.origination)
    (send : SameSend s.fh.inSend t.fh.inSend) (state : t.ctl.state = s.ctl.state)
    (epoch : t.census.epoch = s.census.epoch) (clock : s.clock ≤ t.clock) : BallotsFit t := by
  have records : t.record = s.record := by funext i; simp only [State.record, table]
  refine h.kept (by rw [own]) send state epoch clock (AllOwe.same h.owed table) fun i q hq _ =>
    .inl ⟨q, ?_, KeepsBallot.refl q⟩
  rw [← records]
  exact hq

/-- A frame that is no ballot may be queued. -/
theorem BallotsFit.queued_other (h : BallotsFit s) (other : ballotOf f = none) : BallotsFit (enqueue f s) := by
  have old : ∀ {g : Frame} {b : Ballot}, g ∈ (enqueue f s).fh.origination → ballotOf g = some b → g ∈ s.fh.origination := by
    intro g b hg hb
    rcases List.mem_append.1 hg with hg | hg
    · exact hg
    · rw [List.mem_singleton.1 hg, other] at hb
      cases hb
  refine ⟨fun g hg b hb => h.queued g (old hg hb) b hb, ?_, fun active g hg b hb => h.unsent active g (old hg hb) b hb,
    h.left, h.owed⟩
  refine List.pairwise_append.2 ⟨h.once, List.pairwise_singleton .., fun g _ g' hg' b c _ hc => ?_⟩
  rw [List.mem_singleton.1 hg', other] at hc
  cases hc

/-- A claim that enters has a count above those of the ballots queued (R8). -/
theorem BallotsFit.entered (h : BallotsFit s) (enters : Enters s t) (limit : t.clock ≤ Config.clockLimit)
    (owe : AllOwe t) : BallotsFit t := by
  cases enters with
  | refused => exact h.same rfl rfl (SameSend.refl _) rfl rfl (stamped_le s)
  | entered k c free quota mode range tag noWait wait claim =>
    refine h.kept (List.Sublist.refl _) (SameSend.refl _) rfl rfl (stamped_le s) owe fun i q hq _ => ?_
    rw [record_writeRecord] at hq
    split at hq
    · cases hq
      right
      rw [(isEntered _ rfl mode range tag noWait wait claim).identity]
      exact stampClock_above limit
    · exact .inl ⟨q, hq, KeepsBallot.refl q⟩

/-- A claim's ballot is built and queued: no other ballot names its count (R38, R39). -/
theorem BallotsFit.built (h : BallotsFit s) (apart : GrantsApart s) {k : SlotNo} (held : s.record k = some r)
    (own : r.kind = .own) (pending : r.state = .pending) (due : r.due = some .ballot) (active : s.ctl.state = .active)
    (owe : AllOwe (enqueue (ballotFrame r s) (writeRecord k { r with due := none } s))) :
    BallotsFit (enqueue (ballotFrame r s) (writeRecord k { r with due := none } s)) := by
  have claim : isClaim r := ⟨own, .inl pending⟩
  obtain ⟨stampEpoch, count, -⟩ := apart.stamps active k r held claim
  have fresh : ∀ g ∈ s.fh.origination, ∀ c, ballotOf g = some c → c.count ≠ r.identity.count := by
    intro g hg c hc same
    exact (h.unsent active g hg c hc k r held claim same.symm).2.1 due
  refine ⟨fun g hg b hb => ?_, ?_, fun _ g hg b hb i q hq cq same => ?_, h.left, owe⟩
  · rcases List.mem_append.1 hg with hg | hg
    · exact h.queued g hg b hb
    · rw [List.mem_singleton.1 hg] at hb ⊢
      cases hb
      exact ⟨by change dueAllowed s.ctl.state = true; rw [active]; rfl, stampEpoch, count⟩
  · refine List.pairwise_append.2 ⟨h.once, List.pairwise_singleton .., fun g hg g' hg' b c hb hc => ?_⟩
    rw [List.mem_singleton.1 hg'] at hc
    cases hc
    exact fresh g hg b hb
  · have hq : (writeRecord k { r with due := none } s).record i = some q := hq
    rw [record_writeRecord] at hq
    rcases List.mem_append.1 hg with hg | hg
    · split at hq
      · cases hq
        exact absurd same.symm (fresh g hg b hb)
      · exact h.unsent active g hg b hb i q hq cq same
    · rw [List.mem_singleton.1 hg] at hb
      cases hb
      split at hq
      · cases hq
        exact ⟨pending, by simp, h.owed k r held due, rfl⟩
      · rename_i hik
        exact absurd same (apart.distinct active i k q r (Ne.symm hik) hq held cq claim)

/-- The ballots of a station that leaves ACTIVE and LEAVING, or enters FORMING: none is queued (R123, R149). -/
theorem ballotsFit_flushed (own : ∀ f ∈ t.fh.origination, ballotOf f = none) (notActive : t.ctl.state ≠ .active) (owe : AllOwe t)
    (left : ∀ x, t.fh.inSend = some x → x.source = .origination → x.left = true → ∀ b, ballotOf x.frame = some b →
      x.frame.epoch ≤ t.census.epoch ∧ (dueAllowed t.ctl.state = true → x.frame.epoch < t.census.epoch)) :
    BallotsFit t := by
  refine ⟨fun f hf b hb => ?_, ?_, fun active => absurd active notActive, left, owe⟩
  · rw [own f hf] at hb
    cases hb
  · refine List.Pairwise.imp_of_mem (R := fun _ _ => True) (fun hf _ _ b c hb _ => ?_) (List.pairwise_of_forall fun _ _ => trivial)
    rw [own _ hf] at hb
    cases hb

/-- A ballot in send, whether or not it has left its queue, is of the station's epoch at most (R39, R58). -/
theorem BallotsFit.send_epoch (h : BallotsFit s) (queues : QueuesStand s) {x : InSend} (sending : s.fh.inSend = some x)
    (source : x.source = .origination) (hb : ballotOf x.frame = some b) : x.frame.epoch ≤ s.census.epoch := by
  cases left : x.left with
  | true => exact (h.left x sending source left b hb).1
  | false =>
    have head := queues.sends x sending left
    rw [source] at head
    exact BitVec.le_of_eq (h.queued x.frame (List.mem_of_head? head) b hb).2.1

/-- A flush of the origination queue leaves the ballot in send, which then has left it (R123). -/
theorem BallotsFit.flushed (h : BallotsFit s) (queues : QueuesStand s) (send : t.fh.inSend = s.fh.inSend.map (leaveQueue .origination))
    (own : t.fh.origination = []) (still : dueAllowed t.ctl.state = false) (epoch : t.census.epoch = s.census.epoch)
    (owe : AllOwe t) : BallotsFit t := by
  refine ballotsFit_flushed (by simp [own]) ?_ owe fun x hx source _ b hb => ⟨?_, fun allowed => ?_⟩
  · intro e
    simp [e, dueAllowed] at still
  · rw [send] at hx
    obtain ⟨y, hy, rfl⟩ := Option.map_eq_some_iff.1 hx
    rw [leaveQueue_source] at source
    rw [leaveQueue_frame] at hb ⊢
    rw [epoch]
    exact h.send_epoch queues hy source hb
  · rw [still] at allowed
    cases allowed

/-- Where no due is allowed no ballot is queued. -/
theorem BallotsFit.quiet (h : BallotsFit s) (still : dueAllowed s.ctl.state = false) (hf : f ∈ s.fh.origination) :
    ballotOf f = none := by
  cases hb : ballotOf f with
  | none => rfl
  | some b =>
    have := (h.queued f hf b hb).1
    rw [still] at this
    cases this

/-! ### The ballots are kept -/

theorem sameSend_map {g : InSend → InSend} (send : Option InSend)
    (same : ∀ x, (g x).source = x.source ∧ (g x).frame = x.frame ∧ ((g x).source = .origination → (g x).left = true → x.left = true)) :
    SameSend send (send.map g) := by
  intro x hx source left
  obtain ⟨y, hy, rfl⟩ := Option.map_eq_some_iff.1 hx
  obtain ⟨hs, hf, hl⟩ := same y
  exact ⟨y, hy, hs ▸ source, hl source left, hf.symm⟩

theorem sameSend_flushTransit (send : Option InSend) : SameSend send (send.map (leaveQueue .transit)) := by
  refine sameSend_map send fun x => ⟨leaveQueue_source .., leaveQueue_frame .., fun source left => ?_⟩
  rw [leaveQueue_source] at source
  simpa [source] using left

theorem SameSend.trans {a b c : Option InSend} (h : SameSend a b) (h' : SameSend b c) : SameSend a c := by
  intro x hx source left
  obtain ⟨y, hy, source', left', frame⟩ := h' x hx source left
  obtain ⟨z, hz, source'', left'', frame'⟩ := h y hy source' left'
  exact ⟨z, hz, source'', left'', frame'.trans frame⟩

theorem sameSend_lostUp (p : UpstreamPort) (s : State) : SameSend s.fh.inSend (lostUp p s).fh.inSend := by
  unfold lostUp
  simp only
  split
  · exact (sameSend_flushTransit _).trans (sameSend_map _ fun x => ⟨rfl, rfl, fun _ => id⟩)
  · exact sameSend_flushTransit _

theorem departed_send (x : InSend) (s : State) : (departed x s).fh.inSend = none := by
  unfold departed chargeCredit leaveAtDeparture
  split
  · rfl
  · split <;> rfl

theorem departed_sublist (x : InSend) (s : State) : (departed x s).fh.origination.Sublist s.fh.origination := by
  unfold departed chargeCredit leaveAtDeparture
  split
  · exact List.Sublist.refl _
  · split
    · exact List.Sublist.refl _
    · exact List.drop_sublist 1 _

theorem BallotsFit.adopted (h : BallotsFit s) (epochs : EpochFit s) {epoch : Word32} {members : List StationId}
    (working : formingOrIsolated s.ctl.state = true)
    (best : EpochFit s → ∃ o, s.census.bestKey = some { epoch := epoch, origin := o })
    (send : t.fh.inSend = s.fh.inSend.map leaveIfCensus) (epoch' : t.census.epoch = epoch)
    (own : ∀ f ∈ t.fh.origination, f ∈ s.fh.origination ∨ f = rosterFrame s epoch members)
    (owe : AllOwe t) : BallotsFit t := by
  have noBallot : ∀ f ∈ t.fh.origination, ballotOf f = none := by
    intro f hf
    rcases own f hf with hf | rfl
    · exact h.quiet (not_dueAllowed_of_working working) hf
    · rfl
  have above : s.census.epoch < epoch := by
    obtain ⟨k, hk, above⟩ := epochs.forming working
    obtain ⟨o, ho⟩ := best epochs
    obtain rfl := Option.some.inj (hk.symm.trans ho)
    exact above
  refine ⟨fun f hf b hb => ?_, ?_, fun _ f hf b hb => ?_, fun x hx source left b hb => ?_, owe⟩
  · rw [noBallot f hf] at hb
    cases hb
  · refine List.Pairwise.imp_of_mem (R := fun _ _ => True) (fun hf _ _ b c hb _ => ?_)
      (List.pairwise_of_forall fun _ _ => trivial)
    rw [noBallot _ hf] at hb
    cases hb
  · rw [noBallot f hf] at hb
    cases hb
  · rw [send] at hx
    obtain ⟨y, hy, rfl⟩ := Option.map_eq_some_iff.1 hx
    rw [leaveIfCensus_source] at source
    rw [leaveIfCensus_frame] at hb ⊢
    have notCensus : isCensus y.frame = false := by
      unfold ballotOf at hb
      unfold isCensus
      split at hb <;> simp_all
    have left' : y.left = true := by simpa [leaveIfCensus, notCensus] using left
    have before := (h.left y hy source left' b hb).1
    rw [epoch']
    refine ⟨?_, fun _ => ?_⟩ <;> bv_omega

/-- What holds of a station between events, as far as its ballots need it. -/
structure Sound (s : State) : Prop where
  parts : PartsFit s
  queues : QueuesStand s
  records : AllFit s
  epochs : EpochFit s
  apart : GrantsApart s
  ballots : BallotsFit s

theorem BallotsFit.move (sound : Sound s) (m : Move s t) : BallotsFit t := by
  have h := sound.ballots
  have owe : AllOwe t := AllOwe.move h.owed sound.records m
  cases m with
  | aside a =>
    exact h.same (by rw [a.only]) (by rw [a.only]) (by rw [a.only]; exact SameSend.refl _) (by rw [a.only]) (by rw [a.only]) a.clock
  | halt cause u => exact ballotsFit_flushed nofun (fun e => nomatch e) owe nofun
  | turn only table each =>
    refine h.kept (by rw [only]) (by rw [only]; exact SameSend.refl _) (by rw [only]) (by rw [only])
      (by rw [only]; exact BitVec.le_refl _) owe fun i q hq _ => ?_
    obtain ⟨r, hr, turn⟩ := each i q hq
    exact .inl ⟨r, hr, turn.keepsBallot (sound.records i r hr) (h.owed i r hr)⟩
  | shadowed i identity a free allowed =>
    refine h.kept (List.Sublist.refl _) (SameSend.refl _) rfl rfl (BitVec.le_refl _) owe fun j q hq claim => ?_
    rw [record_writeRecord] at hq
    split at hq
    · cases hq
      exact absurd claim (not_isClaim_of_shadow rfl)
    · exact .inl ⟨q, hq, KeepsBallot.refl q⟩
  | stamp enters active limit => exact h.entered enters limit owe
  | @upLost p up link owed far run =>
    have send := sameSend_lostUp p s
    unfold lostUp at send ⊢
    simp only at send ⊢
    split <;> rename_i hd
    · rw [if_pos hd] at send
      exact h.same rfl rfl send rfl rfl (BitVec.le_refl _)
    · rw [if_neg hd] at send
      exact h.same rfl rfl send rfl rfl (BitVec.le_refl _)
  | downLost up link credit far => exact h.same rfl rfl (sameSend_none _) rfl rfl (BitVec.le_refl _)
  | downTrained waiting link credit far => exact h.same rfl rfl (sameSend_none _) rfl rfl (BitVec.le_refl _)
  | queued f room allowed noBallot => exact h.queued_other noBallot
  | censusQueued f room working census =>
    have other : ballotOf f = none := by
      unfold isCensus at census
      unfold ballotOf
      split at census <;> simp_all
    exact (h.queued_other other).same rfl rfl (SameSend.refl _) rfl rfl (BitVec.le_refl _)
  | ballotQueued i r room allowed held due clear =>
    obtain ⟨-, own, pending⟩ := (sound.records i r held).dues _ due
    exact h.built sound.apart held own pending due ((sound.records i r held).pending own pending) owe
  | sendBegun f src position can bound candidate =>
    refine h.same rfl rfl (fun x hx _ left => ?_) rfl rfl (BitVec.le_refl _)
    cases hx
    cases left
  | @departed x sending =>
    refine h.kept (departed_sublist x s) (by rw [departed_send]; exact sameSend_none _) (by rw [departed_ctl]) (by rw [departed_census])
      (BitVec.le_of_eq (departed_clock x s).symm) owe fun i q hq _ => .inl ⟨q, ?_, KeepsBallot.refl q⟩
    rw [departed_record] at hq
    exact hq
  | @formed u v enters active room table =>
    have entered : u.fh = s.fh ∧ u.census = s.census := by
      rcases enters with rfl | enters
      · exact ⟨rfl, rfl⟩
      · cases enters <;> exact ⟨rfl, rfl⟩
    have fh : v.fh = s.fh := by rw [table.1]; exact entered.1
    have census : v.census = s.census := by rw [table.1]; exact entered.2
    have state : (formingUnits v).ctl.state = .forming := by rw [formingUnits_state, table.1]; rfl
    obtain ⟨sent, units⟩ := formingUnits_eq v
    refine h.flushed sound.queues ?_ ?_ ?_ ?_ owe
    · rw [units, ← fh]; rfl
    · rw [units]; rfl
    · change dueAllowed (formingUnits v).ctl.state = false
      rw [state]
      rfl
    · rw [units, ← census]; rfl
  | @formedBy k v active newer table =>
    have fh : v.fh = s.fh := by rw [table.1]; rfl
    have census : v.census = s.census := by rw [table.1]; rfl
    have state : (formingUnits v).ctl.state = .forming := by rw [formingUnits_state, table.1]; rfl
    obtain ⟨sent, units⟩ := formingUnits_eq v
    refine h.flushed sound.queues ?_ ?_ ?_ ?_ owe
    · rw [units, ← fh]; rfl
    · rw [units]; rfl
    · change dueAllowed (formingUnits v).ctl.state = false
      rw [state]
      rfl
    · rw [units, ← census]
      simp only [withCensus]
      split <;> rfl
  | @isolated v forming table =>
    refine h.flushed sound.queues ?_ ?_ ?_ ?_ owe <;> rw [table.1] <;> rfl
  | @detached out v leaving table =>
    have fh : (stopCensus (clearShadowUnit v)).fh = (detachedUnits out s).fh := by rw [table.1]; rfl
    refine ballotsFit_flushed ?_ ?_ owe ?_
    · rw [fh]; exact nofun
    · rw [table.1]; exact fun e => nomatch e
    · rw [fh]; exact nofun
  | left active table =>
    have allowed : dueAllowed s.ctl.state = true := by rw [active]; rfl
    have fh : t.fh = s.fh := by rw [table.1]; rfl
    have census : t.census = s.census := by rw [table.1]; rfl
    have clock : t.clock = s.clock := by rw [table.1]; rfl
    have state : t.ctl.state = .leaving := by rw [table.1]; rfl
    refine ⟨?_, ?_, fun e => ?_, ?_, owe⟩
    · rw [fh, census, clock, state]
      exact fun f hf b hb => ⟨rfl, (h.queued f hf b hb).2⟩
    · rw [fh]; exact h.once
    · rw [state] at e
      cases e
    · rw [fh, census]
      exact fun x hx source left b hb => ⟨(h.left x hx source left b hb).1, fun _ => (h.left x hx source left b hb).2 allowed⟩
  | @adopted epoch members u v working best queued only table' table =>
    refine h.adopted (members := members) sound.epochs working best ?_ ?_ ?_ owe
    · rw [only]
      rcases queued with rfl | ⟨-, rfl⟩ <;> rfl
    · rw [only]
      rfl
    · rw [only]
      intro f kept
      have hf : f ∈ u.fh.origination := List.mem_of_mem_filter kept
      rcases queued with rfl | ⟨-, rfl⟩
      · exact .inl hf
      · rcases List.mem_append.1 hf with hf | hf
        · exact .inl hf
        · exact .inr (List.mem_singleton.1 hf)
  | _ => exact h.same rfl rfl (SameSend.refl _) rfl rfl (BitVec.le_refl _)

theorem BallotsFit.configured (sound : Sound s) (c : Configuration) (unborn : s.ctl.state = .unconfigured) :
    BallotsFit (acceptConfiguration c s) := by
  obtain ⟨-, origination, send, -⟩ := sound.queues.quiet (by rw [unborn]; rfl)
  refine ballotsFit_flushed ?_ (fun e => nomatch e) (AllOwe.same sound.ballots.owed rfl) ?_
  · change ∀ f ∈ s.fh.origination, _
    rw [origination]
    exact nofun
  · change ∀ x, s.fh.inSend = some x → _
    rw [send]
    exact nofun

theorem Sound.moves (sound : Sound s) (m : Moves s t) : Sound t := by
  induction m with
  | refl => exact sound
  | tail _ m ih =>
    exact ⟨ih.parts.move m, ih.queues.move ih.parts m, ih.records.move m, (ih.epochs.move m).1,
      ih.apart.move ih.records ih.ballots.owed m, BallotsFit.move ih m⟩

/-- The departing ballot of a claim had not left the origination queue: one that has is of an epoch before (R39). -/
theorem BallotsFit.departing_head (sound : Sound s) {x : InSend} {k : SlotNo} (d : DepartsBallot s t x b k r)
    (active : s.ctl.state = .active) : x.left = false ∧ s.fh.origination.head? = some x.frame := by
  cases left : x.left with
  | true =>
    have before := (sound.ballots.left x d.sending d.source left b d.body).2 (by rw [active]; rfl)
    obtain ⟨epoch, -⟩ := sound.apart.stamps active k r d.held ⟨d.own, .inl d.pending⟩
    rw [← d.epoch, epoch] at before
    exact absurd before (BitVec.lt_irrefl _)
  | false =>
    have head := sound.queues.sends x d.sending left
    rw [d.source] at head
    exact ⟨rfl, head⟩

theorem departed_origination_drop {x : InSend} (left : x.left = false) (source : x.source = .origination) :
    (departed x s).fh.origination = s.fh.origination.drop 1 := by
  simp [departed, chargeCredit, leaveAtDeparture, left, source]

/-- The departure of a claim's ballot starts its timer, and no other ballot of the claim waits (R39). -/
theorem BallotsFit.departsBallot (sound : Sound s) {x : InSend} {k : SlotNo} (d : DepartsBallot s t x b k r) : BallotsFit t := by
  have h := sound.ballots
  have claim : isClaim r := ⟨d.own, .inl d.pending⟩
  have active : s.ctl.state = .active := (sound.records k r d.held).pending d.own d.pending
  have ctl : t.ctl = s.ctl := by rw [d.out]; exact departed_ctl x s
  have census : t.census = s.census := by rw [d.out]; exact departed_census x s
  have clock : t.clock = s.clock := by rw [d.out]; exact departed_clock x s
  have send : t.fh.inSend = none := by rw [d.out]; exact departed_send x s
  obtain ⟨left, head⟩ := departing_head sound d active
  have own : t.fh.origination = s.fh.origination.drop 1 := by
    rw [d.out]
    exact departed_origination_drop left d.source
  obtain ⟨rest, queue⟩ : ∃ rest, s.fh.origination = x.frame :: rest := List.head?_eq_some_iff.1 head
  rw [queue, List.drop_one, List.tail_cons] at own
  have once := h.once
  rw [queue, List.pairwise_cons] at once
  have unsent := h.unsent active x.frame (by simp [queue]) b d.body k r d.held claim d.count
  refine ⟨fun f hf c hc => ?_, ?_, fun _ f hf c hc i q hq cq same => ?_, fun y hy => ?_, fun i q hq due => ?_⟩
  · rw [ctl, census, clock]
    rw [own] at hf
    exact h.queued f (by simp [queue, hf]) c hc
  · rw [own]
    exact once.2
  · rw [own] at hf
    rw [d.record] at hq
    split at hq
    · cases hq
      exact absurd (d.count.symm.trans same) (once.1 f hf b c d.body hc)
    · exact h.unsent active f (by simp [queue, hf]) c hc i q hq cq same
  · rw [send] at hy
    cases hy
  · rw [d.record] at hq
    split at hq
    · cases hq
      exact absurd due unsent.2.1
    · exact h.owed i q hq due

/-- What is sound does not speak of the host port and the waiting commands. -/
theorem Sound.same (sound : Sound s) (x : HostPort) (pending : List Instr) : Sound { s with host := x, pending := pending } :=
  ⟨sound.parts.same ⟨rfl, rfl, rfl, rfl, rfl, fun x hx => ⟨x, hx, rfl⟩, id⟩, sound.queues.same rfl rfl rfl rfl rfl rfl,
    sound.records.same rfl rfl, sound.epochs.same rfl rfl rfl rfl rfl fun _ => id,
    sound.apart.same rfl rfl rfl (BitVec.le_refl _),
    sound.ballots.same rfl rfl (SameSend.refl _) rfl rfl (BitVec.le_refl _)⟩

theorem BallotsFit.stationRun (sound : Sound s) (m : StationRun s t) : BallotsFit t := by
  cases m with
  | moves m => exact (sound.moves m).ballots
  | configured c fresh unborn out => exact out ▸ BallotsFit.configured sound c unborn
  | ballot d => exact BallotsFit.departsBallot sound d

theorem BallotsFit.runs (sound : Sound s) (m : Runs s t) : BallotsFit t := by
  obtain ⟨before, after, u, run, rfl⟩ := m
  exact (BallotsFit.stationRun (sound.same before s.pending) run).same rfl rfl (SameSend.refl _) rfl rfl (BitVec.le_refl _)

theorem Restarted.ballotsFit (h : Restarted s t) : BallotsFit t := by
  have owe : AllOwe t := (AllFit.restarted h).owe (by
    obtain ⟨cause, h⟩ := h.values
    rw [h]
    exact fun e => nomatch e)
  obtain ⟨cause, h⟩ := h.values
  refine ballotsFit_flushed ?_ ?_ owe ?_ <;> rw [h]
  · exact nofun
  · exact fun e => nomatch e
  · exact nofun

end

/-- Settles O59, move by move. -/
theorem builtBallotsKept : Obligations.BuiltBallotsKept := by
  intro s t links queues records epochs apart h stepped
  obtain ⟨pending, runs | restarted⟩ := step_leads stepped
  · have sound : Sound s := ⟨links.parts, queues.stand, recordsFit_iff.1 records, epochs, apart, h⟩
    exact BallotsFit.runs (sound.same s.host pending) runs
  · exact restarted.ballotsFit

end Sys2Proof.Machine
end

section
/-! PROOF. What one command does to the host port: the rows of the transactions, of the command handler, and of the events,
which place at most one record (R165, R170, R172, R176, R177). -/

namespace Sys2Proof.Machine

section
variable {s t u : State} {c : Instr}

/-! ### The rows -/

/-- The host port with more records placed (R172). -/
def placed (more : List ResultRecord) (h : HostPort) : HostPort := { h with results := h.results ++ more }

/-- The station with another host port. -/
def withHost (h : HostPort) (s : State) : State := { s with host := h }

/-- What the body of a command taken does: it is quiet, or it is that of an accepted CONFIGURE. -/
def BodyQuiet (c : Instr) (body : CommandEntry → State → Completion × State) : Prop :=
  ∀ e u, Quiet u (body e u).2 ∨ c = .configure ∧ ∃ x, (body e u).2 = acceptConfiguration x u

/-- How a command beside RESETN meets the host port. -/
inductive Row (s : State) : Instr → State → Prop
  | transaction (k : Transaction) (e : SpiEvent) : Row s (spiRow k e) (transact k e s)
  | command {c : Instr} {body : CommandEntry → State → Completion × State} (which : Option HostCommand)
      (quiet : BodyQuiet c body) : Row s c (takeCommand which body s)
  | event {c : Instr} {t : State} (more : List ResultRecord) (single : more.length ≤ 1)
      (room : more ≠ [] → s.host.results.length < Config.resultDepth)
      (quiet : Quiet (withHost (placed more s.host) s) t) : Row s c t

theorem row_of_quiet (quiet : Quiet s t) : Row s c t := by
  refine .event [] (by simp) (fun h => absurd rfl h) ?_
  have same : withHost (placed [] s.host) s = s := by simp [withHost, placed]
  rw [same]
  exact quiet

theorem row_of_moves (m : Moves s t) : Row s c t := row_of_quiet (Moves.quiet m)

theorem bodyQuiet_known {body : CommandEntry → State → Completion × State} (moves : ∀ e u, Moves u (body e u).2) :
    BodyQuiet c (ifConfigured body) := fun e u => .inl (Moves.quiet (moves_ifConfigured e (moves e u)))

theorem bodyQuiet_configure : BodyQuiet .configure configureBody := by
  intro e u
  obtain same | ⟨x, -, -, accepted⟩ := configureBody_cases e u
  · rw [same]
    exact .inl (.refl u)
  · exact .inr ⟨rfl, x, accepted⟩

/-- The rows of the command handler take a command and run its body (R170). -/
theorem exec_command {which : Option HostCommand} (row : commandRow c = some which) :
    ∃ body, BodyQuiet c body ∧ ∀ s, exec c s = .next (takeCommand which body s) := by
  cases c with
  | configure => cases row; exact ⟨_, bodyQuiet_configure, fun _ => rfl⟩
  | claim => cases row; exact ⟨_, bodyQuiet_known moves_claimBody, fun _ => rfl⟩
  | cancel => cases row; exact ⟨_, bodyQuiet_known moves_cancelBody, fun _ => rfl⟩
  | release => cases row; exact ⟨_, bodyQuiet_known moves_releaseBody, fun _ => rfl⟩
  | renew => cases row; exact ⟨_, bodyQuiet_known moves_renewBody, fun _ => rfl⟩
  | resync => cases row; exact ⟨_, bodyQuiet_known moves_resyncBody, fun _ => rfl⟩
  | leave => cases row; exact ⟨_, bodyQuiet_known moves_leaveBody, fun _ => rfl⟩
  | unknownCommand => cases row; exact ⟨_, fun e u => .inl (.refl u), fun _ => rfl⟩
  | _ => cases row

theorem row_command {which : Option HostCommand} (row : commandRow c = some which) (h : exec c s = .next t) : Row s c t := by
  obtain ⟨body, quiet, run⟩ := exec_command row
  rw [run] at h
  cases h
  exact .command which quiet

theorem row_frameDeparture (h : execFrameDeparture s = .next t) : Row s .frameDeparture t := by
  rcases moves_frameDeparture h with h | ⟨x, b, i, r, h⟩
  · exact row_of_moves h
  · refine row_of_quiet ?_
    obtain ⟨resetn, pending, config, configured, halted, host⟩ := quiet_departed x s
    rw [h.out]
    exact ⟨resetn, pending, config, configured, halted, host⟩

theorem row_recordNoticeDrain (h : execRecordNoticeDrain s = .next t) : Row s .recordNoticeDrain t := by
  cases h
  split
  · rename_i i granted _
    have place : s.host.results.length < Config.resultDepth := by
      simp only [recordGranted, placeFree, Bool.and_eq_true, decide_eq_true_eq] at granted
      exact granted.1.1
    unfold drainRecord
    split
    · exact row_of_moves (.single (moves_tableCheck i s))
    · split
      · exact row_of_quiet (.refl s)
      · split
        · exact row_of_quiet (.refl s)
        · exact .event [_] (by simp) (fun _ => place) ⟨rfl, rfl, rfl, rfl, id, .inl rfl⟩
  · exact row_of_quiet (.refl s)

theorem row_stationNoticeDrain (h : execStationNoticeDrain s = .next t) : Row s .stationNoticeDrain t := by
  cases h
  split
  · rename_i place
    have place : s.host.results.length < Config.resultDepth := by simpa [placeFree] using place
    unfold drainStation
    split
    · exact .event [_] (by simp) (fun _ => place) ⟨rfl, rfl, rfl, rfl, id, .inl rfl⟩
    · exact .event [_] (by simp) (fun _ => place) ⟨rfl, rfl, rfl, rfl, id, .inl rfl⟩
    · exact row_of_quiet (.refl s)
  · exact row_of_quiet (.refl s)

/-- Every command beside RESETN. -/
theorem exec_row (h : exec c s = .next t) (notPin : c ≠ .resetn) : Row s c t := by
  cases c with
  | resetn => exact absurd rfl notPin
  | stationReset e => cases h; exact .transaction .stationReset e
  | writeCommand e => cases h; exact .transaction .writeCommand e
  | readResult e => cases h; exact .transaction .readResult e
  | readStatus e => cases h; exact .transaction .readStatus e
  | writeIndex e => cases h; exact .transaction .writeIndex e
  | readWindow e => cases h; exact .transaction .readWindow e
  | configure => exact row_command rfl h
  | claim => exact row_command rfl h
  | cancel => exact row_command rfl h
  | release => exact row_command rfl h
  | renew => exact row_command rfl h
  | resync => exact row_command rfl h
  | leave => exact row_command rfl h
  | unknownCommand => exact row_command rfl h
  | recordNoticeDrain => exact row_recordNoticeDrain h
  | stationNoticeDrain => exact row_stationNoticeDrain h
  | tick => cases h; exact row_of_moves (moves_tickStation s)
  | ballotTimerExpiry i => exact row_of_moves (moves_ballotTimerExpiry h)
  | waitLimitExpiry i => exact row_of_moves (moves_waitLimitExpiry h)
  | termExpiry i => exact row_of_moves (moves_termExpiry h)
  | shadowTimerExpiry i => exact row_of_moves (moves_shadowTimerExpiry h)
  | fenceExpiry => exact row_of_moves (moves_fenceExpiry h)
  | censusRetryExpiry => exact row_of_moves (moves_censusRetryExpiry h)
  | formationTimerExpiry => exact row_of_moves (moves_formationTimerExpiry h)
  | leaveTimerExpiry => exact row_of_moves (moves_leaveTimerExpiry h)
  | drainCompletion => exact row_of_moves (moves_drainCompletion h)
  | frameArrival bytes => exact row_of_moves (moves_frameArrival h)
  | receiveLockGained port groups => exact row_of_moves (moves_receiveLockGained h)
  | receiveLockLost port cause => exact row_of_moves (moves_receiveLockLost h)
  | farLockSet port inFrame g => exact row_of_moves (moves_farLockSet h)
  | farLockClear port => exact row_of_moves (moves_farLockClear h)
  | token => exact row_of_moves (moves_token h)
  | advertise => exact row_of_moves (moves_advertise h)
  | rebase => exact row_of_moves (moves_rebase h)
  | advertiseSend => exact row_of_moves (moves_advertiseSend h)
  | frameTaking => exact row_of_moves (moves_frameTaking h)
  | scanVisit => exact row_of_moves (moves_scanVisit h)
  | dueService => exact row_of_moves (moves_dueService h)
  | arbiterChoice => exact row_of_moves (moves_arbiterChoice h)
  | frameDeparture => exact row_frameDeparture h

/-! ### Ill-formed commands -/

theorem transact_unfit {k : Transaction} {e : SpiEvent} (unfit : eventFits k e = false) (s : State) : transact k e s = s := by
  cases e with
  | fall => cases unfit
  | rise data => cases unfit
  | code b =>
    simp only [transact, spiCode]
    split
    · rfl
    · simp [unfit]

theorem exec_illFormed (ill : c.wellFormed = false) (s : State) : exec c s = .next s := by
  cases c with
  | receiveLockGained port groups =>
    simp only [Instr.wellFormed] at ill
    simp [exec, execReceiveLockGained, ill]
  | receiveLockLost port cause =>
    simp only [Instr.wellFormed] at ill
    simp [exec, execReceiveLockLost, ill]
  | farLockSet port inFrame g =>
    simp only [Instr.wellFormed, beq_eq_false_iff_ne] at ill
    simp [exec, execFarLockSet, ill]
  | stationReset e => exact congrArg _ (transact_unfit ill s)
  | writeCommand e => exact congrArg _ (transact_unfit ill s)
  | readResult e => exact congrArg _ (transact_unfit ill s)
  | readStatus e => exact congrArg _ (transact_unfit ill s)
  | writeIndex e => exact congrArg _ (transact_unfit ill s)
  | readWindow e => exact congrArg _ (transact_unfit ill s)
  | _ => cases ill

theorem exec_answers (c : Instr) (s : State) : ∃ t, exec c s = .next t := by
  cases c <;> exact ⟨_, rfl⟩

theorem exec_pending (h : exec c s = .next t) : t.pending = s.pending := by
  obtain runs | restarted := exec_leads h
  · exact runs.resetn_pending.2
  · obtain ⟨cause, same⟩ := restarted.values
    rw [same]

/-! ### Commands taken -/

/-- What a body leaves of the host port: a halt may have emptied the command queue (R160, R161). -/
theorem BodyQuiet.host {body : CommandEntry → State → Completion × State} (quiet : BodyQuiet c body) (e : CommandEntry)
    (u : State) : (body e u).2.host = u.host ∨
      (body e u).2.host = { u.host with commands := [] } ∧ (body e u).2.ctl.state = .halted := by
  obtain quiet | ⟨-, x, accepted⟩ := quiet e u
  · exact quiet.host
  · rw [accepted]
    exact .inl rfl

end

/-- Settles O9: what a command comes to keeps the waiting commands, and an ill-formed one fails the test of its row. -/
theorem everyCommandAnswers : Obligations.EveryCommandAnswers := by
  refine ⟨fun c s => ?_, fun c s ill => exec_illFormed ill s⟩
  obtain ⟨t, h⟩ := exec_answers c s
  exact ⟨t, h, exec_pending h⟩

section
variable {s t u : State} {c : Instr}

/-! ### The frame of the host port -/

/-- What most commands leave of the host port: at most one record is placed behind the results (R172). -/
structure PortKept (s t : State) : Prop where
  resetn : t.resetn = s.resetn
  index : t.host.index = s.host.index
  overrun : t.host.overrun = s.host.overrun
  nextSeq : t.host.nextSeq = s.host.nextSeq
  results : ∃ more, t.host.results = s.host.results ++ more ∧ more.length ≤ 1

theorem portKept_of_results (resetn : t.resetn = s.resetn) (index : t.host.index = s.host.index)
    (overrun : t.host.overrun = s.host.overrun) (nextSeq : t.host.nextSeq = s.host.nextSeq)
    (results : t.host.results = s.host.results) : PortKept s t :=
  ⟨resetn, index, overrun, nextSeq, [], by rw [results, List.append_nil], Nat.zero_le _⟩

theorem Quiet.portKept (quiet : Quiet s t) : PortKept s t ∧ t.host.spi = s.host.spi ∧ t.host.sdo = s.host.sdo := by
  rcases quiet.host with host | ⟨host, -⟩
  · exact ⟨portKept_of_results quiet.resetn (by rw [host]) (by rw [host]) (by rw [host]) (by rw [host]), by rw [host], by rw [host]⟩
  · exact ⟨portKept_of_results quiet.resetn (by rw [host]) (by rw [host]) (by rw [host]) (by rw [host]), by rw [host], by rw [host]⟩

theorem portKept_spiFall (s : State) : PortKept s (spiFall s) ∧ (spiFall s).ctl = s.ctl := by
  unfold spiFall
  split <;> exact ⟨portKept_of_results rfl rfl rfl rfl rfl, rfl⟩

theorem portKept_spiCode (k : Transaction) (b : Byte) (s : State) :
    PortKept s (spiCode k b s) ∧ (spiCode k b s).ctl.config = s.ctl.config ∧
      (spiCode k b s).ctl.configured = s.ctl.configured := by
  unfold spiCode
  split
  · exact ⟨portKept_of_results rfl rfl rfl rfl rfl, rfl, rfl⟩
  · split
    · split
      · have quiet : ∀ u, Quiet u (codeByteEffect k u) := fun u => Moves.quiet (moves_codeByteEffect k u)
        obtain ⟨⟨resetn, index, overrun, nextSeq, results⟩, -⟩ := (quiet _).portKept
        exact ⟨⟨resetn, index, overrun, nextSeq, results⟩, (quiet _).config, (quiet _).configured⟩
      · exact ⟨portKept_of_results rfl rfl rfl rfl rfl, rfl, rfl⟩
    · exact ⟨portKept_of_results rfl rfl rfl rfl rfl, rfl, rfl⟩

/-- The rise of CSN takes the effect of the row's transaction, or none (R165). -/
theorem spiRise_cases (k : Transaction) (data : List Byte) (s : State) :
    spiRise k data s = s ∨ (∃ x, s.host.spi = some x ∧ spiRise k data s = endTransfer x data.length s) ∨
      ∃ x, s.host.spi = some x ∧ x.code.bind transactionOf = some k ∧ bytesNeeded k ≤ data.length ∧
        spiRise k data s = endTransfer x data.length (closeEffect k x.headShown data s) := by
  unfold spiRise
  split
  · exact .inl rfl
  · rename_i x hx
    split
    · exact .inr (.inl ⟨x, hx, rfl⟩)
    · rename_i code
      split
      · rename_i same
        subst same
        split
        · rename_i whole
          exact .inr (.inr ⟨x, hx, code, whole, rfl⟩)
        · exact .inr (.inl ⟨x, hx, rfl⟩)
      · exact .inl rfl

/-- What a command leaves of the host port and the configuration, row by row. -/
def PortFrame (c : Instr) (s t : State) : Prop :=
  t.resetn = s.resetn ∧
    ((∀ data, c ≠ .stationReset (.rise data)) →
    ((∀ k e, c ≠ spiRow k e) → t.host.spi = s.host.spi ∧ t.host.sdo = s.host.sdo) ∧
    ((∀ data, c ≠ .writeIndex (.rise data)) → (∀ data, c ≠ .readWindow (.rise data)) → t.host.index = s.host.index) ∧
    ((∀ data, c ≠ .writeCommand (.rise data)) → (∀ data, c ≠ .readStatus (.rise data)) → t.host.overrun = s.host.overrun) ∧
    ((∀ data, c ≠ .writeCommand (.rise data)) → t.host.nextSeq = s.host.nextSeq) ∧
    (c ≠ .configure → t.ctl.config = s.ctl.config ∧ t.ctl.configured = s.ctl.configured) ∧
    ((∀ data, c ≠ .readResult (.rise data)) → ∃ more, t.host.results = s.host.results ++ more ∧ more.length ≤ 1))

theorem PortKept.frame (kept : PortKept s t)
    (port : (∀ k e, c ≠ spiRow k e) → t.host.spi = s.host.spi ∧ t.host.sdo = s.host.sdo)
    (config : c ≠ .configure → t.ctl.config = s.ctl.config ∧ t.ctl.configured = s.ctl.configured) : PortFrame c s t :=
  ⟨kept.resetn, fun _ => ⟨port, fun _ _ => kept.index, fun _ _ => kept.overrun, fun _ => kept.nextSeq, config,
    fun _ => kept.results⟩⟩

theorem PortKept.transaction_frame (kept : PortKept s t) {k : Transaction} {e : SpiEvent} (config : t.ctl.config = s.ctl.config)
    (configured : t.ctl.configured = s.ctl.configured) : PortFrame (spiRow k e) s t :=
  kept.frame (fun no => absurd rfl (no k e)) fun _ => ⟨config, configured⟩

/-- The rise that completes a transaction changes what its row may change (R165). -/
theorem closeEffect_frame (k : Transaction) (data : List Byte) (x : Transfer) (s : State) :
    PortFrame (spiRow k (.rise data)) s (endTransfer x data.length (closeEffect k x.headShown data s)) := by
  have none' : ∃ more, s.host.results = s.host.results ++ more ∧ more.length ≤ 1 := ⟨[], by simp, by simp⟩
  have row : ∀ k, (∀ k' e, spiRow k (.rise data) ≠ spiRow k' e) → False := fun k no => no k _ rfl
  cases k with
  | stationReset => exact ⟨rfl, fun no => absurd rfl (no data)⟩
  | writeCommand =>
    refine ⟨rfl, fun _ => ⟨fun no => (row _ no).elim, fun _ _ => ?_, fun no => absurd rfl (no data),
      fun no => absurd rfl (no data), fun _ => ⟨rfl, rfl⟩, fun _ => ?_⟩⟩
    · simp only [endTransfer, closeEffect, acceptCommand]
      split <;> rfl
    · simp only [endTransfer, closeEffect, acceptCommand]
      split <;> exact none'
  | readResult =>
    exact ⟨rfl, fun _ => ⟨fun no => (row _ no).elim, fun _ _ => rfl, fun _ _ => rfl, fun _ => rfl, fun _ => ⟨rfl, rfl⟩,
      fun no => absurd rfl (no data)⟩⟩
  | readStatus =>
    exact ⟨rfl, fun _ => ⟨fun no => (row _ no).elim, fun _ _ => rfl, fun _ no => absurd rfl (no data), fun _ => rfl,
      fun _ => ⟨rfl, rfl⟩, fun _ => none'⟩⟩
  | writeIndex =>
    exact ⟨rfl, fun _ => ⟨fun no => (row _ no).elim, fun no => absurd rfl (no data), fun _ _ => rfl, fun _ => rfl,
      fun _ => ⟨rfl, rfl⟩, fun _ => none'⟩⟩
  | readWindow =>
    exact ⟨rfl, fun _ => ⟨fun no => (row _ no).elim, fun _ no => absurd rfl (no data), fun _ _ => rfl, fun _ => rfl,
      fun _ => ⟨rfl, rfl⟩, fun _ => none'⟩⟩

theorem transact_frame (k : Transaction) (e : SpiEvent) (s : State) : PortFrame (spiRow k e) s (transact k e s) := by
  cases e with
  | fall =>
    obtain ⟨kept, ctl⟩ := portKept_spiFall s
    exact kept.transaction_frame (congrArg _ ctl) (congrArg _ ctl)
  | code b =>
    obtain ⟨kept, config, configured⟩ := portKept_spiCode k b s
    exact kept.transaction_frame config configured
  | rise data =>
    have kept : PortKept s s := portKept_of_results rfl rfl rfl rfl rfl
    change PortFrame _ s (spiRise k data s)
    obtain same | ⟨x, -, same⟩ | ⟨x, -, -, -, same⟩ := spiRise_cases k data s
    · rw [same]
      exact kept.transaction_frame rfl rfl
    · rw [same]
      have kept : PortKept s (endTransfer x data.length s) := portKept_of_results rfl rfl rfl rfl rfl
      exact kept.transaction_frame rfl rfl
    · rw [same]
      exact closeEffect_frame k data x s

theorem placeCompletion_places (results : u.host.results = s.host.results) (e : CommandEntry) (x : Completion) :
    ∃ more, (placeCompletion e x u).host.results = s.host.results ++ more ∧ more.length ≤ 1 := by
  refine ⟨[.completion x.code (byteAt e.bytes 0) e.seq x.slot x.tag], ?_, le_refl _⟩
  rw [← results]
  rfl

theorem takeCommand_frame (which : Option HostCommand) {body : CommandEntry → State → Completion × State}
    (quiet : BodyQuiet c body) (s : State) : PortFrame c s (takeCommand which body s) := by
  obtain same | ⟨e, rest, -, -, -, same⟩ := takeCommand_cases which body s
  · rw [same]
    exact PortKept.frame (portKept_of_results rfl rfl rfl rfl rfl) (fun _ => ⟨rfl, rfl⟩) fun _ => ⟨rfl, rfl⟩
  · rw [same]
    obtain quiet | ⟨rfl, x, accepted⟩ := quiet e { s with host := { s.host with commands := rest } }
    · obtain ⟨⟨resetn, index, overrun, nextSeq, -⟩, spi, sdo⟩ := quiet.portKept
      refine PortKept.frame ⟨resetn, index, overrun, nextSeq, placeCompletion_places ?_ e _⟩ (fun _ => ⟨spi, sdo⟩)
        fun _ => ⟨quiet.config, quiet.configured⟩
      rcases quiet.host with host | ⟨host, -⟩ <;> rw [host]
    · rw [accepted]
      exact PortKept.frame ⟨rfl, rfl, rfl, rfl, [_], rfl, le_refl _⟩ (fun _ => ⟨rfl, rfl⟩) fun no => absurd rfl no

theorem Row.frame (row : Row s c t) : PortFrame c s t := by
  cases row with
  | transaction k e => exact transact_frame k e s
  | command which quiet => exact takeCommand_frame which quiet s
  | event more single room quiet =>
    obtain ⟨⟨resetn, index, overrun, nextSeq, -⟩, spi, sdo⟩ := quiet.portKept
    refine PortKept.frame ⟨resetn, index, overrun, nextSeq, more, ?_, single⟩ (fun _ => ⟨spi, sdo⟩)
      fun _ => ⟨quiet.config, quiet.configured⟩
    rcases quiet.host with host | ⟨host, -⟩ <;> rw [host] <;> rfl

end

/-- Settles O18, row by row. -/
theorem hostPortFrame : Obligations.HostPortFrame := fun _ _ _ h notPin => (exec_row h notPin).frame

/-- Settles O19: every body leaves the host port, or empties the command queue as it halts the station. -/
theorem oneCompletionPerCommand : Obligations.OneCompletionPerCommand := by
  refine ⟨fun c which s e rest row granted code => ?_, fun c which s row idle => ?_⟩
  · obtain ⟨body, quiet, run⟩ := exec_command row
    have host := quiet.host e { s with host := { s.host with commands := rest } }
    generalize out : body e { s with host := { s.host with commands := rest } } = done at host
    refine ⟨_, done.1.code, done.1.slot, done.1.tag, run s, ?_⟩
    rw [takeCommand_granted granted code, out]
    obtain host | ⟨host, halted⟩ := host
    · exact ⟨by simp [placeCompletion, host], .inl (by simp [placeCompletion, host])⟩
    · exact ⟨by simp [placeCompletion, host], .inr ⟨by simp [placeCompletion, host], halted⟩⟩
  · obtain ⟨body, -, run⟩ := exec_command row
    rw [run, takeCommand_idle idle]

end Sys2Proof.Machine
end

section
/-! PROOF. Queues, counts and indexes stay in their bounds: the station's move by move, the host port's row by row. -/

namespace Sys2Proof.Machine

section
variable {s t u v w : State} {c : Instr} {r q : Record}

/-! ### The station's bounds -/

/-- The queues, counts and indexes within the station (R12, R18, R102, R104, R112, R123, R129, R162). -/
structure StationBounds (s : State) : Prop where
  transit : s.fh.transit.length ≤ Config.transitDepth
  origination : s.fh.origination.length ≤ Config.originationDepth
  arbiter : s.fh.arbiterPos ≤ Config.arbiterLimit
  badRun : s.up.badRun ≤ Config.badFrameLimit
  credit : s.down.credit ≤ Config.fullCredit
  ticks : s.ctl.tickCounter < Config.refclkPerTick
  quota : ownCount s ≤ Config.ownQuota
  scan : ∀ sc, s.scan = some sc → sc.nextSlot < 64

/-- Nothing has grown. -/
structure NoGrowth (s t : State) : Prop where
  transit : t.fh.transit.length ≤ s.fh.transit.length
  origination : t.fh.origination.length ≤ s.fh.origination.length
  arbiter : t.fh.arbiterPos ≤ s.fh.arbiterPos
  badRun : t.up.badRun ≤ s.up.badRun
  credit : t.down.credit ≤ s.down.credit
  ticks : t.ctl.tickCounter = s.ctl.tickCounter
  quota : ownCount t ≤ ownCount s
  scan : ∀ sc, t.scan = some sc → s.scan = some sc

theorem NoGrowth.bounds (g : NoGrowth s t) (h : StationBounds s) : StationBounds t :=
  ⟨g.transit.trans h.transit, g.origination.trans h.origination, g.arbiter.trans h.arbiter, g.badRun.trans h.badRun,
    g.credit.trans h.credit, g.ticks ▸ h.ticks, g.quota.trans h.quota, fun sc hsc => h.scan sc (g.scan sc hsc)⟩

theorem NoGrowth.refl (s : State) : NoGrowth s s :=
  ⟨le_refl _, le_refl _, le_refl _, le_refl _, le_refl _, rfl, le_refl _, fun _ => id⟩

theorem NoGrowth.trans (g : NoGrowth s t) (g' : NoGrowth t u) : NoGrowth s u :=
  ⟨g'.transit.trans g.transit, g'.origination.trans g.origination, g'.arbiter.trans g.arbiter, g'.badRun.trans g.badRun,
    g'.credit.trans g.credit, g'.ticks.trans g.ticks, g'.quota.trans g.quota, fun sc h => g.scan sc (g'.scan sc h)⟩

theorem TableOnly.noGrowth (only : TableOnly s t) (quota : ownCount t ≤ ownCount s) : NoGrowth s t := by
  have same : t = { s with table := t.table } := only
  refine ⟨?_, ?_, ?_, ?_, ?_, ?_, quota, ?_⟩ <;> rw [same]
  exact fun _ => id

theorem Rewritten.noGrowth {f : SlotNo → Record → Option Record} (h : Rewritten f s t) (keeps : Respects f) : NoGrowth s t :=
  h.1.noGrowth (h.workedOn keeps).2.ownCount_le

/-! ### The moves within the station -/

theorem ownCount_enterHalted (cause : HaltCause) (u : State) : ownCount (enterHalted cause u) ≤ ownCount u := by
  refine ownCount_mono fun i q hq own => ?_
  have hq : State.record { u with table := u.table.mapIdx fun _ sl => haltSlot sl } i = some q := hq
  rw [record_haltSlot] at hq
  unfold haltSlot at hq
  split at hq
  · rename_i r _ hr
    split at hq
    · rename_i held
      exact ⟨r, hr, held.1⟩
    · cases hq
  · cases hq

theorem StationBounds.halted (h : StationBounds s) (cut : Partial s u) (cause : HaltCause) :
    StationBounds (enterHalted cause u) := by
  refine ⟨Nat.zero_le _, Nat.zero_le _, Nat.zero_le _, Nat.zero_le _, Nat.zero_le _, ?_,
    (ownCount_enterHalted cause u).trans (cut.quota h.quota), nofun⟩
  change u.ctl.tickCounter < _
  rw [cut.ticks]
  exact h.ticks

theorem noGrowth_flushTransit (s : State) : NoGrowth s (flushTransit s) :=
  ⟨Nat.zero_le _, le_refl _, Nat.zero_le _, le_refl _, le_refl _, rfl, le_refl _, nofun⟩

theorem StationBounds.withUp (h : StationBounds s) {p : UpstreamPort} (run : p.badRun ≤ Config.badFrameLimit) :
    StationBounds { s with up := p } :=
  ⟨h.transit, h.origination, h.arbiter, run, h.credit, h.ticks, h.quota, h.scan⟩

theorem StationBounds.withDown (h : StationBounds s) {d : DownstreamPort} (credit : d.credit ≤ Config.fullCredit) :
    StationBounds { s with down := d } :=
  ⟨h.transit, h.origination, h.arbiter, h.badRun, credit, h.ticks, h.quota, h.scan⟩

theorem UpMove.badRun {p : UpstreamPort} (m : UpMove s p) (h : s.up.badRun ≤ Config.badFrameLimit) :
    p.badRun ≤ Config.badFrameLimit := by
  cases m with
  | rejected up n bound => exact bound
  | opened waiting far => exact Nat.zero_le _
  | _ => exact h

theorem DownMove.credit {d : DownstreamPort} (m : DownMove s d) (h : s.down.credit ≤ Config.fullCredit) :
    d.credit ≤ Config.fullCredit := by
  cases m with
  | credited up bound => exact bound
  | opened waiting => exact le_refl _
  | locked training => exact Nat.zero_le _
  | _ => exact h

theorem noGrowth_cutDown {d : DownstreamPort} (credit : d.credit = 0) (s : State) : NoGrowth s (cutDown d s) :=
  ⟨le_refl _, le_refl _, le_refl _, le_refl _, by simp [cutDown, credit], rfl, le_refl _, fun _ => id⟩

theorem StationBounds.lostUp (h : StationBounds s) {p : UpstreamPort} (run : p.badRun ≤ Config.badFrameLimit) :
    StationBounds (lostUp p s) := by
  have flushed := (noGrowth_flushTransit { s with up := p }).bounds (h.withUp run)
  unfold Machine.lostUp
  simp only
  split
  · exact ⟨flushed.transit, flushed.origination, flushed.arbiter, flushed.badRun, Nat.zero_le _, flushed.ticks, flushed.quota,
      flushed.scan⟩
  · exact flushed

theorem noGrowth_departed (x : InSend) (s : State) : NoGrowth s (departed x s) := by
  unfold departed chargeCredit leaveAtDeparture
  split
  · exact ⟨le_refl _, le_refl _, le_refl _, le_refl _, Nat.sub_le _ _, rfl, le_refl _, fun _ => id⟩
  · split
    · exact ⟨by simp [returnTokens], le_refl _, le_refl _, le_refl _, Nat.sub_le _ _, rfl, le_refl _, fun _ => id⟩
    · exact ⟨le_refl _, by simp, le_refl _, le_refl _, Nat.sub_le _ _, rfl, le_refl _, fun _ => id⟩

theorem noGrowth_formingUnits (v : State) : NoGrowth v (formingUnits v) := by
  obtain ⟨sent, units⟩ := formingUnits_eq v
  rw [units]
  refine ⟨?_, Nat.zero_le _, le_refl _, le_refl _, le_refl _, rfl, le_refl _, nofun⟩
  change (leftByScan v).length ≤ _
  unfold leftByScan
  split
  · exact List.length_filter_le _ _
  · exact le_refl _

theorem Enters.bounds (enters : Enters s u) (h : StationBounds s) : StationBounds u := by
  have quota := enters.ownCount h.quota
  cases enters <;> exact ⟨h.transit, h.origination, h.arbiter, h.badRun, h.credit, h.ticks, quota, h.scan⟩

theorem StationBounds.enqueued (h : StationBounds s) (f : Frame) (room : s.fh.origination.length < Config.originationDepth) :
    StationBounds (enqueue f s) :=
  ⟨h.transit, by simpa [enqueue] using room, h.arbiter, h.badRun, h.credit, h.ticks, h.quota, h.scan⟩

/-- Within the station nothing but the queue of origination, the ports and the table bears on the bounds. -/
theorem StationBounds.withCensus (h : StationBounds s) (x : CensusUnit) : StationBounds (withCensus x s) :=
  ⟨h.transit, h.origination, h.arbiter, h.badRun, h.credit, h.ticks, h.quota, h.scan⟩

theorem StationBounds.rewritten {f : SlotNo → Record → Option Record} (h : StationBounds w) (table : Rewritten f w v)
    (keeps : Respects f) : StationBounds v := (table.noGrowth keeps).bounds h

theorem StationBounds.move (h : StationBounds s) (m : Move s t) : StationBounds t := by
  cases m with
  | aside a =>
    rw [a.only]
    exact ⟨h.transit, h.origination, h.arbiter, h.badRun, h.credit, a.ticks h.ticks, h.quota, h.scan⟩
  | halt cause cut => exact h.halted cut cause
  | turn only sound each =>
    refine (only.noGrowth (ownCount_mono fun i q hq own => ?_)).bounds h
    obtain ⟨r, hr, turn⟩ := each i q hq
    exact ⟨r, hr, turn.kind ▸ own⟩
  | shadowed i identity a free allowed =>
    refine ((tableOnly_writeRecord ..).noGrowth (ownCount_mono fun j q hq own => ?_)).bounds h
    rw [record_writeRecord] at hq
    split at hq
    · cases hq
      cases own
    · exact ⟨q, hq, own⟩
  | stamp enters active limit => exact enters.bounds h
  | upPort m => exact h.withUp (m.badRun h.badRun)
  | downPort m => exact h.withDown (m.credit h.credit)
  | downTrained waiting link credit far => exact (noGrowth_cutDown credit s).bounds h
  | upLost up link owed far run => exact h.lostUp (run h.badRun)
  | downLost up link credit far => exact ((noGrowth_cutDown credit s).trans (noGrowth_flushTransit _)).bounds h
  | arrived f up room =>
    exact ⟨by simpa [goodFrame] using room, h.origination, h.arbiter, Nat.zero_le _, h.credit, h.ticks, h.quota, h.scan⟩
  | takenOut a =>
    exact ⟨by have := h.transit; rw [a.queue] at this; simp only [withTransit, List.length_append, List.length_cons] at this ⊢; omega,
      h.origination, h.arbiter, h.badRun, h.credit, h.ticks, h.quota, h.scan⟩
  | takenOn g a =>
    exact ⟨by simpa [withTransit, a.queue] using h.transit,
      h.origination, h.arbiter, h.badRun, h.credit, h.ticks, h.quota, h.scan⟩
  | scanBegun a ballot allowed =>
    refine ⟨by simpa [withScan, withTransit, a.queue] using h.transit,
      h.origination, h.arbiter, h.badRun, h.credit, h.ticks, h.quota, ?_⟩
    rintro sc ⟨⟩
    exact Nat.zero_lt_succ _
  | scanMoved x running bound =>
    refine ⟨h.transit, h.origination, h.arbiter, h.badRun, h.credit, h.ticks, h.quota, ?_⟩
    rintro sc ⟨⟩
    exact bound
  | scanEnded g running =>
    exact ⟨by simpa [readyHand, withScan] using h.transit, h.origination, h.arbiter, h.badRun, h.credit, h.ticks, h.quota, nofun⟩
  | queued f room allowed noBallot => exact h.enqueued f room
  | censusQueued f room working census => exact (h.enqueued f room).withCensus _
  | ballotQueued i r room allowed held due clear =>
    have written : StationBounds (writeRecord i { r with due := none } s) := by
      refine ((tableOnly_writeRecord ..).noGrowth (ownCount_mono fun j q hq own => ?_)).bounds h
      rw [record_writeRecord] at hq
      split at hq
      · rename_i same
        cases hq
        exact ⟨r, same ▸ held, own⟩
      · exact ⟨q, hq, own⟩
    exact written.enqueued _ room
  | sendBegun f src position can bound candidate =>
    exact ⟨h.transit, h.origination, bound, h.badRun, h.credit, h.ticks, h.quota, h.scan⟩
  | departed sending => exact (noGrowth_departed _ s).bounds h
  | formed enters active room table =>
    have entered := enters.elim (fun same => same ▸ h) (Enters.bounds · h)
    have formed : StationBounds (withState .forming _) :=
      ⟨entered.transit, entered.origination, entered.arbiter, entered.badRun, entered.credit, entered.ticks, entered.quota, entered.scan⟩
    exact ((noGrowth_formingUnits _).bounds (formed.rewritten table respects_clearForming)).withCensus _
  | formedBy k active newer table =>
    have formed : StationBounds (withState .forming s) :=
      ⟨h.transit, h.origination, h.arbiter, h.badRun, h.credit, h.ticks, h.quota, h.scan⟩
    exact ((noGrowth_formingUnits _).bounds (formed.rewritten table respects_clearForming)).withCensus _
  | isolated forming table =>
    have isolated : StationBounds (isolatedUnits s) :=
      ⟨h.transit, Nat.zero_le _, h.arbiter, h.badRun, h.credit, h.ticks, h.quota, h.scan⟩
    have after := isolated.rewritten table 
      (respects_clearDue.bind (respects_isolateOwn.bind respects_dropShadow))
    exact ⟨after.transit, after.origination, after.arbiter, after.badRun, after.credit, after.ticks, after.quota, after.scan⟩
  | detached out leaving table =>
    have detached : StationBounds (detachedUnits out s) :=
      ⟨Nat.zero_le _, Nat.zero_le _, Nat.zero_le _, Nat.zero_le _, Nat.zero_le _, h.ticks, h.quota, nofun⟩
    have after := detached.rewritten table (respects_clearDue.bind respects_dropShadow)
    exact ⟨after.transit, after.origination, after.arbiter, after.badRun, after.credit, after.ticks, after.quota, after.scan⟩
  | left active table =>
    have leaving : StationBounds (leavingUnits s) :=
      ⟨h.transit, h.origination, h.arbiter, h.badRun, h.credit, h.ticks, h.quota, h.scan⟩
    exact leaving.rewritten table respects_leaveRecord
  | @adopted epoch members u v working best queued only sound table =>
    have filtered : u.fh.origination.length ≤ Config.originationDepth ∧ u.up = s.up ∧ u.down = s.down ∧
        u.fh.transit = s.fh.transit ∧ u.fh.arbiterPos = s.fh.arbiterPos ∧ u.scan = s.scan ∧
        u.ctl.tickCounter = s.ctl.tickCounter := by
      rcases queued with rfl | ⟨room, rfl⟩
      · exact ⟨h.origination, rfl, rfl, rfl, rfl, rfl, rfl⟩
      · exact ⟨(h.enqueued _ room).origination, rfl, rfl, rfl, rfl, rfl, rfl⟩
    obtain ⟨origination, up, down, transit, arbiter, scan, ticks⟩ := filtered
    have quota : ownCount v ≤ ownCount s := by
      refine ownCount_mono fun i q hq own => ?_
      rw [table] at hq
      obtain ⟨r, hr, rfl⟩ := Option.map_eq_some_iff.1 hq
      exact ⟨r, hr, by simpa [adoptRecord] using own⟩
    refine ⟨?_, ?_, ?_, ?_, ?_, ?_, quota.trans h.quota, ?_⟩ <;> rw [only]
    · exact (congrArg List.length transit).trans_le h.transit
    · exact (List.length_filter_le _ _).trans origination
    · exact arbiter.trans_le h.arbiter
    · exact (congrArg UpstreamPort.badRun up).trans_le h.badRun
    · exact (congrArg DownstreamPort.credit down).trans_le h.credit
    · exact ticks.trans_lt h.ticks
    · exact fun sc hsc => h.scan sc (scan.symm.trans hsc)
  | _ => exact ⟨h.transit, h.origination, h.arbiter, h.badRun, h.credit, h.ticks, h.quota, h.scan⟩

theorem StationBounds.moves (h : StationBounds s) (m : Moves s t) : StationBounds t := by
  induction m with
  | refl => exact h
  | tail _ m ih => exact ih.move m

theorem StationBounds.hosted (h : StationBounds s) (x : HostPort) (pending : List Instr) :
    StationBounds { s with host := x, pending := pending } :=
  ⟨h.transit, h.origination, h.arbiter, h.badRun, h.credit, h.ticks, h.quota, h.scan⟩

theorem StationBounds.stationRun (h : StationBounds s) (m : StationRun s t) : StationBounds t := by
  cases m with
  | moves m => exact h.moves m
  | configured x fresh unborn out =>
    rw [out]
    exact ⟨h.transit, h.origination, h.arbiter, h.badRun, h.credit, h.ticks, h.quota, h.scan⟩
  | @ballot x b i r d =>
    have away := (noGrowth_departed x s).bounds h
    have counted : StationBounds (countDeparture (departed x s)) :=
      ⟨away.transit, away.origination, away.arbiter, away.badRun, away.credit, away.ticks, away.quota, away.scan⟩
    rw [d.out]
    refine ((tableOnly_writeRecord ..).noGrowth (ownCount_mono fun j q hq own => ?_)).bounds counted
    rw [record_writeRecord] at hq
    split at hq
    · rename_i same
      cases hq
      exact ⟨r, same ▸ (departed_record x s ▸ d.held : (departed x s).record i = some r), own⟩
    · exact ⟨q, hq, own⟩

theorem StationBounds.runs (h : StationBounds s) (m : Runs s t) : StationBounds t := by
  obtain ⟨before, after, u, run, rfl⟩ := m
  exact ((h.hosted before s.pending).stationRun run).hosted after u.pending

theorem Restarted.bounds (h : Restarted s t) : StationBounds t := by
  obtain ⟨cause, h⟩ := h.values
  have quota : ownCount t ≤ Config.ownQuota := by
    rw [h]
    exact (Table.count_allFree _).trans_le (Nat.zero_le _)
  refine ⟨?_, ?_, ?_, ?_, ?_, ?_, quota, ?_⟩ <;> rw [h]
  · exact Nat.zero_le _
  · exact Nat.zero_le _
  · exact Nat.zero_le _
  · exact Nat.zero_le _
  · exact Nat.zero_le _
  · exact Nat.zero_lt_succ _
  · exact nofun

/-! ### The check values -/

theorem undamaged_enterHalted (cause : HaltCause) (u : State) : (enterHalted cause u).undamaged := by
  intro i
  have slot : (enterHalted cause u).table.get i = haltSlot (u.table.get i) := Table.get_mapIdx ..
  rw [slot]
  unfold haltSlot
  split
  · split <;> rfl
  · rfl

theorem Enters.undamaged (enters : Enters s u) (h : s.undamaged) : u.undamaged := by
  cases enters with
  | refused => exact h
  | entered => exact undamaged_writeRecord (s := stamped s) h _ _

theorem undamaged_formingUnits (h : v.undamaged) : (formingUnits v).undamaged := by
  obtain ⟨sent, units⟩ := formingUnits_eq v
  rw [units]
  exact h

/-- No move makes a slot disagree with its check value (R28; notes/assumptions/4.md). -/
theorem Move.undamaged (m : Move s t) (h : s.undamaged) : t.undamaged := by
  cases m with
  | aside a =>
    intro i
    rw [a.only]
    exact h i
  | halt cause cut => exact undamaged_enterHalted _ _
  | turn only sound each => exact sound.undamaged h
  | shadowed i identity a free allowed => exact undamaged_writeRecord h _ _
  | stamp enters active limit => exact enters.undamaged h
  | upLost up link owed far run =>
    unfold lostUp
    simp only
    split <;> exact h
  | ballotQueued i r room allowed held due clear => exact undamaged_writeRecord h _ _
  | departed sending =>
    intro i
    rw [departed_table]
    exact h i
  | @formed u v enters active room table =>
    have entered : u.undamaged := by
      rcases enters with rfl | enters
      · exact h
      · exact enters.undamaged h
    exact undamaged_formingUnits (table.2.1.undamaged (s := withState .forming u) entered)
  | formedBy k active newer table =>
    exact undamaged_formingUnits (table.2.1.undamaged (s := withState .forming s) h)
  | isolated forming table => exact table.2.1.undamaged (s := isolatedUnits s) h
  | detached out leaving table => exact table.2.1.undamaged (s := detachedUnits out s) h
  | left active table => exact table.2.1.undamaged (s := leavingUnits s) h
  | adopted epoch members working best queued only sound table => exact sound.undamaged h
  | _ => exact h

theorem Moves.undamaged (m : Moves s t) (h : s.undamaged) : t.undamaged := by
  induction m with
  | refl => exact h
  | tail _ m ih => exact m.undamaged ih

theorem StationRun.undamaged (m : StationRun s t) (h : s.undamaged) : t.undamaged := by
  cases m with
  | moves m => exact Moves.undamaged m h
  | configured x fresh unborn out =>
    rw [out]
    exact h
  | @ballot x b i r d =>
    have counted : (countDeparture (departed x s)).undamaged := by
      intro i
      change ((departed x s).table.get i).damaged = false
      rw [departed_table]
      exact h i
    rw [d.out]
    exact undamaged_writeRecord counted _ _

theorem Runs.undamaged (m : Runs s t) (h : s.undamaged) : t.undamaged := by
  obtain ⟨before, after, u, run, rfl⟩ := m
  exact run.undamaged h

theorem Restarted.undamaged (h : Restarted s t) : t.undamaged := by
  obtain ⟨cause, h⟩ := h.values
  rw [h]
  exact fun i => congrArg Slot.damaged (Table.get_allFree i)

/-! ### The bounds of the host port -/

/-- The bounds of the host port, and the record that a READ_RESULT shows at the head (R168, R172, R175, R178). -/
structure HostBounds (h : HostPort) : Prop where
  commands : h.commands.length ≤ Config.commandDepth
  entries : ∀ e ∈ h.commands, e.bytes.length = 20
  results : h.results.length ≤ Config.resultDepth
  index : h.index.group ≤ lastGroup h.index.space
  shown : ∀ x, h.spi = some x → x.headShown = true → ∃ r rest, h.results = r :: rest ∧ x.reply = resultBytes r

theorem inBounds_iff : InBounds s ↔ StationBounds s ∧ HostBounds s.host :=
  ⟨fun h => ⟨⟨h.transit, h.origination, h.arbiter, h.badRun, h.credit, h.ticks, h.quota, h.scan⟩,
      ⟨h.commands, h.entries, h.results, h.index, h.shown⟩⟩,
    fun ⟨h, p⟩ => ⟨h.transit, h.origination, h.arbiter, h.badRun, h.credit, p.commands, p.entries, p.results, p.index, h.ticks,
      h.quota, h.scan, p.shown⟩⟩

variable {p : HostPort}

/-- A command queue with entries of the queue before. -/
theorem HostBounds.fewer (h : HostBounds p) {left : List CommandEntry} (sub : left.Sublist p.commands) :
    HostBounds { p with commands := left } :=
  ⟨sub.length_le.trans h.commands, fun e he => h.entries e (sub.subset he), h.results, h.index, h.shown⟩

theorem HostBounds.quiet (h : HostBounds s.host) (quiet : Quiet s t) : HostBounds t.host := by
  rcases quiet.host with host | ⟨host, -⟩
  · rw [host]
    exact h
  · rw [host]
    exact h.fewer (List.nil_sublist _)

/-- A record placed stands behind the head (R172). -/
theorem HostBounds.placed (h : HostBounds p) {more : List ResultRecord} (single : more.length ≤ 1)
    (room : more ≠ [] → p.results.length < Config.resultDepth) : HostBounds (placed more p) := by
  refine ⟨h.commands, h.entries, ?_, h.index, fun x hx shown => ?_⟩
  · change (p.results ++ more).length ≤ _
    rw [List.length_append]
    by_cases none' : more = []
    · rw [none']
      exact h.results
    · have := room none'
      omega
  · obtain ⟨r, rest, results, reply⟩ := h.shown x hx shown
    refine ⟨r, rest ++ more, ?_, reply⟩
    change p.results ++ more = _
    rw [results]
    rfl

theorem HostBounds.taken (h : HostBounds s.host) (which : Option HostCommand)
    {body : CommandEntry → State → Completion × State} (quiet : BodyQuiet c body) :
    HostBounds (takeCommand which body s).host := by
  obtain same | ⟨e, rest, queue, granted, -, same⟩ := takeCommand_cases which body s
  · rw [same]
    exact h
  · rw [same]
    have place := ((commandGranted_iff s).1 granted).1
    have popped : HostBounds { s.host with commands := rest } := h.fewer (queue ▸ List.sublist_cons_self e rest)
    have out := quiet.host e { s with host := { s.host with commands := rest } }
    generalize body e { s with host := { s.host with commands := rest } } = done at out
    have results : done.2.host.results.length < Config.resultDepth := by
      rcases out with out | ⟨out, -⟩ <;> rw [out] <;> exact place
    have bounds : HostBounds done.2.host := by
      rcases out with out | ⟨out, -⟩ <;> rw [out]
      · exact popped
      · exact popped.fewer (List.nil_sublist _)
    exact bounds.placed (more := [_]) (le_refl _) fun _ => results

/-- A transaction begins, or goes on, with a reply that shows the head or no record. -/
theorem HostBounds.transfer (h : HostBounds p) {x : Transfer}
    (shown : x.headShown = true → ∃ r rest, p.results = r :: rest ∧ x.reply = resultBytes r) :
    HostBounds { p with spi := some x } :=
  ⟨h.commands, h.entries, h.results, h.index, fun y hy => by cases hy; exact shown⟩

/-- A transaction ends. -/
theorem HostBounds.ended (h : HostBounds p) (sdo : List Byte) : HostBounds { p with spi := none, sdo := sdo } :=
  ⟨h.commands, h.entries, h.results, h.index, nofun⟩

theorem hostBounds_code (h : HostBounds s.host) (k : Transaction) (b : Byte) : HostBounds (spiCode k b s).host := by
  unfold spiCode
  split
  · exact h
  · rename_i x hx
    split
    · split
      · refine HostBounds.quiet ?_ (Moves.quiet (moves_codeByteEffect k _))
        refine h.transfer fun shown => ?_
        simp only [Bool.and_eq_true, beq_iff_eq, Bool.not_eq_true', List.isEmpty_eq_false_iff] at shown
        obtain ⟨rfl, some'⟩ := shown
        obtain ⟨r, rest, results⟩ := List.exists_cons_of_ne_nil some'
        exact ⟨r, rest, results, by simp [replyBytes, results]⟩
      · exact h.transfer nofun
    · exact h

theorem lastGroup_writtenIndex {data : List Byte} {x : WindowIndex} (written : writtenIndex data = some x) :
    x.group ≤ lastGroup x.space := by
  unfold writtenIndex at written
  split at written
  · cases written
  · split at written
    · split at written
      · cases written
        assumption
      · cases written
    · cases written

theorem lastGroup_advanceIndex (x : WindowIndex) : (advanceIndex x).group ≤ lastGroup (advanceIndex x).space := by
  unfold advanceIndex
  split
  · rename_i below
    exact below
  · split <;> exact Nat.zero_le _

/-- The effect of a complete transaction beside STATION_RESET; the head may go from the results (R169, R175, R178, R179). -/
theorem hostBounds_closeEffect (h : HostBounds s.host) {k : Transaction} (notReset : k ≠ .stationReset) (shown : Bool)
    {data : List Byte} (whole : bytesNeeded k ≤ data.length) (sdo : List Byte) :
    HostBounds { (closeEffect k shown data s).host with spi := none, sdo := sdo } := by
  cases k with
  | stationReset => exact absurd rfl notReset
  | writeCommand =>
    simp only [closeEffect, acceptCommand]
    split
    · rename_i room
      refine ⟨?_, fun e he => ?_, h.results, h.index, nofun⟩
      · change (s.host.commands ++ [_]).length ≤ _
        rw [List.length_append]
        exact room
      · obtain he | he := List.mem_append.1 he
        · exact h.entries e he
        · rw [List.mem_singleton.1 he]
          exact List.length_take_of_le whole
    · exact ⟨h.commands, h.entries, h.results, h.index, nofun⟩
  | readResult =>
    refine ⟨h.commands, h.entries, ?_, h.index, nofun⟩
    simp only [closeEffect]
    split
    · exact (List.drop_sublist ..).length_le.trans h.results
    · exact h.results
  | readStatus => exact ⟨h.commands, h.entries, h.results, h.index, nofun⟩
  | writeIndex =>
    refine ⟨h.commands, h.entries, h.results, ?_, nofun⟩
    simp only [closeEffect, setIndex]
    cases written : writtenIndex data with
    | none => exact h.index
    | some x => exact lastGroup_writtenIndex written
  | readWindow => exact ⟨h.commands, h.entries, h.results, lastGroup_advanceIndex _, nofun⟩

theorem hostBounds_transact (h : HostBounds s.host) (k : Transaction) (e : SpiEvent) : HostBounds (transact k e s).host := by
  cases e with
  | fall =>
    simp only [transact, spiFall]
    split
    · exact h.transfer nofun
    · exact h
  | code b => exact hostBounds_code h k b
  | rise data =>
    change HostBounds (spiRise k data s).host
    obtain same | ⟨x, -, same⟩ | ⟨x, -, -, whole, same⟩ := spiRise_cases k data s
    · rw [same]
      exact h
    · rw [same]
      exact h.ended _
    · rw [same]
      by_cases reset : k = .stationReset
      · subst reset
        exact ⟨Nat.zero_le _, nofun, Nat.succ_le_succ (Nat.zero_le _), Nat.zero_le _, nofun⟩
      · exact hostBounds_closeEffect h reset x.headShown whole _

theorem Row.hostBounds (row : Row s c t) (h : HostBounds s.host) : HostBounds t.host := by
  cases row with
  | transaction k e => exact hostBounds_transact h k e
  | command which quiet => exact h.taken which quiet
  | event more single room quiet => exact HostBounds.quiet (h.placed single room) quiet

theorem exec_hostBounds (run : exec c s = .next t) (h : HostBounds s.host) : HostBounds t.host := by
  by_cases pin : c = .resetn
  · subst pin
    cases run
    refine ⟨?_, ?_, ?_, ?_, ?_⟩ <;> dsimp only <;> split
    · exact Nat.zero_le _
    · exact Nat.zero_le _
    · exact nofun
    · exact nofun
    · exact Nat.zero_le _
    · exact Nat.succ_le_succ (Nat.zero_le _)
    · exact Nat.zero_le _
    · exact Nat.zero_le _
    · exact nofun
    · exact nofun
  · exact (exec_row run pin).hostBounds h

theorem step_hostBounds (stepped : step s = .next t) (h : HostBounds s.host) : HostBounds t.host := by
  unfold step at stepped
  split at stepped
  · cases stepped
    exact HostBounds.quiet h (Moves.quiet (moves_refclkPeriod s))
  · exact exec_hostBounds stepped h

end

/-- Settles O53: the station's bounds move by move, those of the host port row by row. -/
theorem boundsKept : Obligations.BoundsKept := by
  intro s t stepped
  obtain ⟨pending, runs | restarted⟩ := step_leads stepped
  · refine ⟨fun h => ?_, fun h => runs.undamaged h⟩
    obtain ⟨station, host⟩ := inBounds_iff.1 h
    exact inBounds_iff.2 ⟨(station.hosted s.host pending).runs runs, step_hostBounds stepped host⟩
  · refine ⟨fun h => ?_, fun _ => restarted.undamaged⟩
    obtain ⟨-, host⟩ := inBounds_iff.1 h
    exact inBounds_iff.2 ⟨restarted.bounds, step_hostBounds stepped host⟩

end Sys2Proof.Machine
end

section
/-! PROOF. The orders of stamps and keys, the step, the REFCLK periods and the resets (R6, R132, R162 to R164), and the reset state's
invariants. -/

namespace Sys2Proof.Machine

/-! ### Stamps and keys -/

theorem precedes_iff_toNat (x y : Stamp) : precedes x y = true ↔ x.epoch.toNat < y.epoch.toNat ∨
    (x.epoch = y.epoch ∧ (x.count.toNat < y.count.toNat ∨ (x.count = y.count ∧ x.id.toNat < y.id.toNat))) :=
  precedes_iff x y

theorem precedes_asymm {x y : Stamp} (h : precedes x y = true) : precedes y x = false := by
  by_contra h'
  rw [Bool.not_eq_false] at h'
  exact absurd (precedes_trans h h') (by simp [precedes_irrefl])

theorem keyAbove_iff_toNat (x y : Key) : keyAbove x y = true ↔ y.epoch.toNat < x.epoch.toNat ∨
    (x.epoch = y.epoch ∧ y.origin.toNat < x.origin.toNat) :=
  keyAbove_iff x y

theorem keyAbove_asymm {x y : Key} (h : keyAbove x y = true) : keyAbove y x = false := by
  by_contra h'
  rw [Bool.not_eq_false] at h'
  have := keyAbove_trans h h'
  simp [keyAbove] at this

theorem keyAbove_total {x y : Key} (apart : x ≠ y) : keyAbove x y = true ∨ keyAbove y x = true := by
  obtain ⟨a, b⟩ := x
  obtain ⟨c, d⟩ := y
  simp only [ne_eq, Key.mk.injEq, keyAbove_iff_toNat, ← BitVec.toNat_inj] at *
  omega

/-- Settles O3. -/
theorem stampAndKeyOrder : Obligations.StampAndKeyOrder := by
  refine ⟨precedes_iff_toNat, precedes_irrefl, fun x y apart => ?_, fun _ _ _ => precedes_trans, keyAbove_iff_toNat,
    fun x y apart => ?_⟩
  · rcases precedes_total x y with h | rfl | h
    · exact .inl ⟨h, precedes_asymm h⟩
    · exact absurd rfl apart
    · exact .inr ⟨precedes_asymm h, h⟩
  · rcases keyAbove_total apart with h | h
    · exact .inl ⟨h, keyAbove_asymm h⟩
    · exact .inr ⟨keyAbove_asymm h, h⟩

/-! ### The step -/

theorem step_front {c : Instr} {rest : List Instr} {s : State} (queue : s.pending = c :: rest) :
    step s = exec c { s with pending := rest } := by
  simp only [step, queue]

theorem step_empty {s : State} (queue : s.pending = []) : step s = .next (refclkPeriod s) := by
  simp only [step, queue]

/-- Settles O7. -/
theorem stepTakesFrontCommand : Obligations.StepTakesFrontCommand := fun _ _ _ => step_front

/-- Settles O8. -/
theorem emptyQueueCountsRefclk : Obligations.EmptyQueueCountsRefclk := by
  intro s queue
  rw [step_empty queue]
  refine ⟨fun high below => ?_, fun high reached => ?_, fun low => ?_⟩
  · simp [refclkPeriod, high, Config.refclkPerTick, below]
  · have reached : ¬ s.ctl.tickCounter + 1 < Config.refclkPerTick := by
      rw [Config.refclkPerTick]
      omega
    simp only [refclkPeriod, high, reached]
    rfl
  · simp [refclkPeriod, low]

/-! ### The resets -/

theorem step_held : step State.heldReset = .next State.heldReset := by
  rw [step_empty rfl]
  rfl

/-- A complete STATION_RESET (R164). -/
theorem exec_stationReset {s : State} {status b : Byte} {data : List Byte}
    (spi : s.host.spi = some { status := status, code := some 0xA5, reply := [], headShown := false }) :
    exec (.stationReset (.rise (b :: data))) s = .next { State.afterReset .host with
      pending := s.pending
      resetn := s.resetn
      host := { (State.afterReset .host).host with sdo := status :: List.replicate (data.length + 1) 0 } } := by
  have rise := transact_rise (k := .stationReset) spi rfl (b :: data)
  simp only [bytesNeeded, List.length_cons, Nat.le_add_left, if_true, closeEffect] at rise
  change Host.Outcome.next _ = _
  rw [rise]
  simp only [endTransfer, shiftedOut, List.nil_append, List.take_replicate, Nat.min_self]
  rfl

theorem undamaged_afterReset (cause : StartCause) : (State.afterReset cause).undamaged :=
  fun i => congrArg Slot.damaged (Table.get_allFree i)

/-- Settles O10. -/
theorem resetValues : Obligations.ResetValues := by
  refine ⟨fun s high => ?_, fun s low => ?_, by decide, fun c waiting notPin => exec_held notPin waiting,
    fun s status b data spi => exec_stationReset spi, step_held, fun cause => ?_⟩
  · simp [exec, execResetn, high]
  · simp [exec, execResetn, low]
  · refine ⟨⟨rfl, rfl, rfl, rfl, rfl, rfl, rfl⟩, ⟨rfl, rfl, rfl, rfl, rfl, rfl, rfl, rfl, rfl, rfl⟩,
      ⟨rfl, rfl, rfl, rfl, rfl, rfl, rfl, rfl, rfl⟩, ⟨rfl, rfl, rfl, rfl, rfl, rfl, rfl, rfl⟩, ⟨rfl, rfl, rfl, rfl, rfl⟩,
      ⟨rfl, rfl, rfl, rfl⟩, rfl, rfl, fun i => congrArg Slot.content (Table.get_allFree i), undamaged_afterReset cause⟩

/-- Settles O52: the reset state is what any reset leads to. -/
theorem resetMeetsInvariants : Obligations.ResetMeetsInvariants := by
  have restarted : Restarted State.reset State.reset := ⟨.pin, rfl⟩
  have host : HostBounds State.reset.host :=
    ⟨Nat.zero_le _, nofun, Nat.succ_le_succ (Nat.zero_le _), Nat.zero_le _, nofun⟩
  have fit := AllFit.restarted restarted
  exact ⟨inBounds_iff.2 ⟨restarted.bounds, host⟩, restarted.undamaged, restarted.outOfRing.fit.links, restarted.queuesStand.fit,
    recordsFit_iff.2 fit, restarted.unitsStand.fit nofun, restarted.epochFit, restarted.ballotsFit,
    fit.apart (by decide) (by decide)⟩

end Sys2Proof.Machine
end

section
/-! PROOF. Bytes and frames: what a run of bytes is worth, where the fields of a frame stand, its check, and the frame read back
(R107, R182 to R184). -/

namespace Sys2Proof.Machine

/-! ### Runs of bytes -/

section
variable {v n i : Nat} {bs pre post : List Byte}

theorem foldl_bytes (bs : List Byte) (start : Nat) :
    bs.foldl (fun acc b => acc * 256 + b.toNat) start = start * 256 ^ bs.length + fromBytes bs := by
  unfold fromBytes
  induction bs generalizing start with
  | nil => simp
  | cons b bs ih =>
    simp only [List.foldl_cons, List.length_cons]
    rw [ih, ih (0 * 256 + b.toNat)]
    ring

theorem fromBytes_cons (b : Byte) (bs : List Byte) : fromBytes (b :: bs) = b.toNat * 256 ^ bs.length + fromBytes bs := by
  rw [fromBytes, List.foldl_cons, foldl_bytes, Nat.zero_mul, Nat.zero_add]

@[simp] theorem length_bigEndian (n v : Nat) : (bigEndian n v).length = n := by
  induction n with
  | zero => rfl
  | succ n ih => simp [bigEndian, ih]

/-- A value written most significant byte first is read back (R182). -/
theorem fromBytes_bigEndian (n v : Nat) : fromBytes (bigEndian n v) = v % 256 ^ n := by
  induction n with
  | zero => simp [bigEndian, fromBytes, Nat.mod_one]
  | succ n ih =>
    rw [bigEndian, fromBytes_cons, ih, length_bigEndian, BitVec.toNat_ofNat, Nat.mul_comm]
    exact (Nat.add_comm _ _).trans (Nat.mod_mul (x := v) (a := 256 ^ n) (b := 256)).symm

/-- The field of the bytes between two runs. -/
theorem fieldAt_append {mid : List Byte} (hi : pre.length = i) (hn : mid.length = n) :
    fieldAt (pre ++ mid ++ post) i n = fromBytes mid := by
  subst hi hn
  simp [fieldAt]

theorem fieldAt_bigEndian (hi : pre.length = i) : fieldAt (pre ++ bigEndian n v ++ post) i n = v % 256 ^ n := by
  rw [fieldAt_append hi (length_bigEndian n v), fromBytes_bigEndian]

theorem fieldAt_bigEndian_last (hi : pre.length = i) : fieldAt (pre ++ bigEndian n v) i n = v % 256 ^ n := by
  have := fieldAt_bigEndian (post := []) (n := n) (v := v) hi
  rwa [List.append_nil] at this

theorem fieldAt_succ (h : i + n < bs.length) :
    fieldAt bs i (n + 1) = 256 ^ n * (byteAt bs i).toNat + fieldAt bs (i + 1) n := by
  have inside : i < bs.length := by omega
  have first : bs.drop i = byteAt bs i :: bs.drop (i + 1) := by
    rw [List.drop_eq_getElem_cons inside, byteAt, List.getD_eq_getElem _ _ inside]
  have rest : ((bs.drop (i + 1)).take n).length = n := by
    rw [List.length_take, List.length_drop]
    omega
  rw [fieldAt, first, List.take_succ_cons, fromBytes_cons, rest, fieldAt, Nat.mul_comm]

/-! ### Fields within a run of blocks -/

@[simp] theorem fieldAt_cons (b : Byte) (h : 0 < i) : fieldAt (b :: bs) i n = fieldAt bs (i - 1) n := by
  obtain ⟨k, rfl⟩ := Nat.exists_eq_succ_of_ne_zero h.ne'
  rfl

@[simp] theorem fieldAt_append_right (h : pre.length ≤ i) : fieldAt (pre ++ post) i n = fieldAt post (i - pre.length) n := by
  rw [fieldAt, List.drop_append, List.drop_eq_nil_of_le h, List.nil_append, fieldAt]

@[simp] theorem fieldAt_bigEndian_append : fieldAt (bigEndian n v ++ post) 0 n = v % 256 ^ n :=
  fieldAt_bigEndian (pre := []) rfl

@[simp] theorem fieldAt_bigEndian_zero : fieldAt (bigEndian n v) 0 n = v % 256 ^ n :=
  fieldAt_bigEndian_last (pre := []) rfl

@[simp] theorem byteAt_cons_zero (b : Byte) : byteAt (b :: bs) 0 = b := rfl

@[simp] theorem byteAt_cons (b : Byte) (h : 0 < i) : byteAt (b :: bs) i = byteAt bs (i - 1) := by
  obtain ⟨k, rfl⟩ := Nat.exists_eq_succ_of_ne_zero h.ne'
  rfl

@[simp] theorem byteAt_append_right (h : pre.length ≤ i) : byteAt (pre ++ post) i = byteAt post (i - pre.length) :=
  List.getD_append_right _ _ _ _ h

end

/-! ### The check -/

theorem crc16_append (bs : List Byte) (b : Byte) : crc16 (bs ++ [b]) = crcByte (crc16 bs) b := by
  simp [crc16]

/-- The bits of a byte stand above the register: a step of the register takes in the most significant and moves the others
up (R183). -/
theorem crcBit_xor (r : Word16) (b : Byte) :
    crcBit (r ^^^ (b.setWidth 16 <<< 8)) = crcShiftIn r (b.getLsbD 7) ^^^ ((b <<< 1).setWidth 16 <<< 8) := by
  have top : (r ^^^ (b.setWidth 16 <<< 8)).msb = (r.msb != b.getLsbD 7) := by
    simp [BitVec.msb_eq_getLsbD_last]
  have moved : (b.setWidth 16 <<< 8) <<< 1 = (b <<< 1).setWidth 16 <<< 8 := by
    apply BitVec.eq_of_toNat_eq
    have := b.isLt
    simp only [BitVec.toNat_shiftLeft, BitVec.toNat_setWidth, Nat.shiftLeft_eq]
    omega
  unfold crcBit crcShiftIn
  rw [top]
  split
  · rw [BitVec.shiftLeft_xor_distrib, moved, BitVec.xor_assoc, BitVec.xor_comm _ 0x1021#16, ← BitVec.xor_assoc]
    rfl
  · rw [BitVec.shiftLeft_xor_distrib, moved]

theorem crcByte_eq (r : Word16) (b : Byte) :
    crcByte r b = [7, 6, 5, 4, 3, 2, 1, 0].foldl (fun r k => crcShiftIn r (b.getLsbD k)) r := by
  unfold crcByte
  simp only [crcBit_xor, List.foldl_cons, List.foldl_nil]
  simp [← BitVec.shiftLeft_add]

/-- The first test of R107 over a run of bytes and a check (R183). -/
theorem crcFits_append (content : List Byte) (check : Word16) :
    crcFits (content ++ bigEndian 2 check.toNat) = (decide (1 ≤ content.length) && check == crc16 content) := by
  have length : (content ++ bigEndian 2 check.toNat).length = content.length + 2 := by simp
  have field : fieldAt (content ++ bigEndian 2 check.toNat) content.length 2 = check.toNat := by
    rw [fieldAt_bigEndian_last rfl]
    exact Nat.mod_eq_of_lt check.isLt
  have same : ((crc16 content).toNat == check.toNat) = (check == crc16 content) := by
    rw [Bool.eq_iff_iff, beq_iff_eq, beq_iff_eq, BitVec.toNat_inj, eq_comm]
  rw [crcFits, length, Nat.add_sub_cancel, field, List.take_left, same]
  congr 1
  rw [decide_eq_decide]
  omega

/-- Settles O5. -/
theorem wrongCheckIsBad : Obligations.WrongCheckIsBad := by
  intro content check wrong
  have unfit : (check == crc16 content) = false := beq_eq_false_iff_ne.2 wrong
  rw [checkFrame, crcFits_append, unfit, Bool.and_false]
  rfl

/-! ### The layout of a frame -/

theorem length_headerBytes (f : Frame) : (headerBytes f).length = 7 := by
  simp [headerBytes]

section
variable {f : Frame}

theorem toNat_mod_width {w n : Nat} (x : BitVec w) (h : 2 ^ w ≤ n) : x.toNat % n = x.toNat :=
  Nat.mod_eq_of_lt (x.isLt.trans_le h)

/-- The flags and the origin in byte 1, its reserved bits 0 (11.2). -/
theorem flagsByte_bits : ∀ (duplicate overfull : Bool) (origin : StationId),
    let b := flagBit duplicate 0x80 ||| flagBit overfull 0x40 ||| origin.setWidth 8
    b.getLsbD 7 = duplicate ∧ b.getLsbD 6 = overfull ∧ b.extractLsb' 4 2 = 0 ∧ b.extractLsb' 0 4 = origin := by
  decide

/-- The header's fields stand at the places of 11.2, whatever follows. -/
theorem header_laidOut (f : Frame) (rest : List Byte) :
    byteAt (headerBytes f ++ rest) 0 = kindByte f.body ∧ (byteAt (headerBytes f ++ rest) 1).getLsbD 7 = f.duplicate ∧
    (byteAt (headerBytes f ++ rest) 1).getLsbD 6 = f.overfull ∧ (byteAt (headerBytes f ++ rest) 1).extractLsb' 4 2 = 0 ∧
    (byteAt (headerBytes f ++ rest) 1).extractLsb' 0 4 = f.origin ∧ byteAt (headerBytes f ++ rest) 2 = f.hop ∧
    fieldAt (headerBytes f ++ rest) 3 4 = f.epoch.toNat := by
  obtain ⟨duplicate, overfull, reserved, origin⟩ := flagsByte_bits f.duplicate f.overfull f.origin
  refine ⟨rfl, duplicate, overfull, reserved, origin, rfl, ?_⟩
  simp [headerBytes, toNat_mod_width]

theorem ballot_laidOut {b : Ballot} (body : f.body = .ballot b) : bodyLaidOut (frameBytes f) (.ballot b) := by
  simp only [frameBytes, frameContent, bodyBytes, body, List.append_assoc, headerBytes, kindByte, rangeBytes]
  refine ⟨?_, ?_, ?_, ?_, ?_, ?_, ?_, ?_, ?_⟩ <;> simp [toNat_mod_width]

theorem announce_laidOut {a : Announce} (body : f.body = .announce a) : bodyLaidOut (frameBytes f) (.announce a) := by
  simp only [frameBytes, frameContent, bodyBytes, body, List.append_assoc, headerBytes, kindByte, rangeBytes]
  refine ⟨?_, ?_, ?_, ?_, ?_, ?_, ?_, ?_, ?_⟩ <;> simp [toNat_mod_width]

theorem release_laidOut {x : Release} (body : f.body = .release x) : bodyLaidOut (frameBytes f) (.release x) := by
  simp only [frameBytes, frameContent, bodyBytes, body, List.append_assoc, headerBytes, kindByte, rangeBytes]
  refine ⟨?_, ?_, ?_, ?_, ?_, ?_, ?_, ?_, ?_⟩ <;> simp [toNat_mod_width]

theorem members_laidOut {members : List StationId} (h : bodyBytes f.body = memberBytes members) (bound : members.length ≤ 16) :
    membersLaidOut (frameBytes f) members := by
  have count : members.length % 256 = members.length := Nat.mod_eq_of_lt (by omega)
  have bytes : frameBytes f = headerBytes f ++ (BitVec.ofNat 8 members.length ::
      (members.map (·.setWidth 8) ++ bigEndian 2 (crc16 (frameContent f)).toNat)) := by
    simp [frameBytes, frameContent, h, memberBytes]
  rw [bytes]
  refine ⟨?_, ?_, fun i hi => ?_⟩
  · simp [length_headerBytes]
    omega
  · simp [length_headerBytes, count]
  · have past : 8 + i - 7 - 1 = i := by omega
    have first : byteAt (members.map (·.setWidth 8) ++ bigEndian 2 (crc16 (frameContent f)).toNat) i = members[i].setWidth 8 := by
      rw [byteAt, List.getD_append _ _ _ _ (by simpa using hi), List.getD_eq_getElem _ _ (by simpa using hi), List.getElem_map]
    rw [byteAt_append_right (by rw [length_headerBytes]; omega), length_headerBytes, byteAt_cons _ (by omega), past, first]
    simp only [BitVec.toNat_setWidth]
    exact toNat_mod_width _ (by decide)

theorem body_laidOut (fits : frameFits f) : bodyLaidOut (frameBytes f) f.body := by
  cases body : f.body with
  | census members =>
    rw [frameFits, body] at fits
    exact ⟨congrArg kindByte body, members_laidOut (by rw [body]; rfl) fits.2⟩
  | roster members =>
    rw [frameFits, body] at fits
    exact ⟨congrArg kindByte body, members_laidOut (by rw [body]; rfl) fits.2⟩
  | ballot b => exact ballot_laidOut body
  | announce a => exact announce_laidOut body
  | release x => exact release_laidOut body

theorem check_laidOut (f : Frame) : fieldAt (frameBytes f) ((frameBytes f).length - 2) 2 =
    (crc16 ((frameBytes f).take ((frameBytes f).length - 2))).toNat := by
  have length : (frameBytes f).length - 2 = (frameContent f).length := by simp [frameBytes]
  rw [length, frameBytes, fieldAt_bigEndian_last rfl, List.take_left]
  exact toNat_mod_width _ (by decide)

/-! ### A frame read back -/

theorem membersAt_frameBytes {members : List StationId} (h : bodyBytes f.body = memberBytes members) (bound : members.length ≤ 16) :
    membersAt (frameBytes f) = members := by
  obtain ⟨-, count, -⟩ := members_laidOut h bound
  rw [membersAt, count]
  have bytes : frameBytes f = (headerBytes f ++ [BitVec.ofNat 8 members.length]) ++
      (members.map (·.setWidth 8) ++ bigEndian 2 (crc16 (frameContent f)).toNat) := by
    simp [frameBytes, frameContent, h, memberBytes]
  have length : (headerBytes f ++ [BitVec.ofNat 8 members.length]).length = 8 := by simp [length_headerBytes]
  rw [bytes, List.drop_left' length, List.take_left' (by simp), List.map_map]
  refine (List.map_congr_left fun x _ => ?_).trans (List.map_id _)
  simp

/-- The body is read at its places (R184). -/
theorem readBody_frameBytes (fits : frameFits f) : readBody (frameBytes f) = some f.body := by
  have laid := body_laidOut fits
  cases body : f.body with
  | census members =>
    rw [frameFits, body] at fits
    rw [body] at laid
    rw [readBody, if_pos laid.1, membersAt_frameBytes (by rw [body]; rfl) fits.2]
  | roster members =>
    rw [frameFits, body] at fits
    rw [body] at laid
    simp only [readBody, laid.1]
    rw [membersAt_frameBytes (by rw [body]; rfl) fits.2]
    rfl
  | ballot b =>
    rw [body] at laid
    obtain ⟨kind, -, count, issue, mode, first, last, visited, objectors⟩ := laid
    simp [readBody, kind, count, issue, mode, rangeAt, first, last, visited, objectors]
  | announce a =>
    rw [body] at laid
    obtain ⟨kind, -, epoch, count, cause, mode, first, last, term⟩ := laid
    simp [readBody, kind, epoch, count, cause, mode, rangeAt, first, last, term]
  | release x =>
    rw [body] at laid
    obtain ⟨kind, -, holder, reason, epoch, count, mode, first, last⟩ := laid
    have holder : (byteAt (frameBytes f) 7).setWidth 4 = x.holder := by
      apply BitVec.eq_of_toNat_eq
      rw [BitVec.toNat_setWidth, holder]
      exact toNat_mod_width _ (le_refl _)
    simp [readBody, kind, epoch, count, reason, mode, rangeAt, first, last, holder]

theorem lengthFits_frameBytes (fits : frameFits f) : lengthFits (frameBytes f) f.body = true := by
  have laid := body_laidOut fits
  cases body : f.body with
  | census members =>
    rw [frameFits, body] at fits
    rw [body] at laid
    obtain ⟨-, length, count, -⟩ := laid
    simp [lengthFits, length, count, fits, Config.maxMembers]
  | roster members =>
    rw [frameFits, body] at fits
    rw [body] at laid
    obtain ⟨-, length, count, -⟩ := laid
    simp [lengthFits, length, count, fits, Config.maxMembers]
  | ballot b =>
    rw [body] at laid
    obtain ⟨-, length, -⟩ := laid
    simp [lengthFits, length]
  | announce a =>
    rw [body] at laid
    obtain ⟨-, length, -⟩ := laid
    simp [lengthFits, length]
  | release x =>
    rw [body] at laid
    obtain ⟨-, length, -⟩ := laid
    simp [lengthFits, length]

theorem checkFrame_frameBytes (fits : frameFits f) : checkFrame (frameBytes f) = some f := by
  have crc : crcFits (frameBytes f) = true := by
    rw [frameBytes, crcFits_append]
    simp [frameContent, length_headerBytes]
    omega
  obtain ⟨-, duplicate, overfull, -, origin, hop, epoch⟩ :=
    header_laidOut f (bodyBytes f.body ++ bigEndian 2 (crc16 (frameContent f)).toNat)
  rw [← List.append_assoc, ← frameContent, ← frameBytes] at duplicate overfull origin hop epoch
  have origin' : (byteAt (frameBytes f) 1).setWidth 4 = f.origin := by
    rw [← origin]
    rfl
  simp only [checkFrame, crc, if_true, readBody_frameBytes fits, lengthFits_frameBytes fits, duplicate, overfull, origin', hop,
    epoch, BitVec.ofNat_toNat, BitVec.setWidth_eq]

end

/-- Settles O4. -/
theorem frameSentIsFrameRead : Obligations.FrameSentIsFrameRead := by
  refine ⟨fun f fits => checkFrame_frameBytes fits, fun f fits => ?_, fun bs i n h => fieldAt_succ h, rfl, fun bs b => ?_⟩
  · obtain ⟨-, header⟩ := header_laidOut f (bodyBytes f.body ++ bigEndian 2 (crc16 (frameContent f)).toNat)
    rw [← List.append_assoc, ← frameContent, ← frameBytes] at header
    obtain ⟨duplicate, overfull, reserved, origin, hop, epoch⟩ := header
    exact ⟨body_laidOut fits, duplicate, overfull, reserved, origin, hop, epoch, check_laidOut f⟩
  · rw [crc16_append, crcByte_eq]

end Sys2Proof.Machine
end

section
/-! PROOF. The code groups of the lanes, and what a locked receiver takes from a lane (11.1, R95, R181). -/

namespace Sys2Proof.Machine

/-! ### Groups -/

/-- The bits of a group laid out as an outer bit, a byte and an outer bit. -/
theorem getLsbD_group (top : BitVec 1) (b : Byte) (low : BitVec 1) (i : Nat) :
    BitVec.getLsbD (w := 10) (top ++ b ++ low : BitVec (1 + 8 + 1)) i =
      if i < 1 then low.getLsbD i else if i - 1 < 8 then b.getLsbD (i - 1) else top.getLsbD (i - 1 - 8) := by
  change BitVec.getLsbD (w := 1 + 8 + 1) (top ++ b ++ low) i = _
  simp only [BitVec.getLsbD_append]

@[simp] theorem dataGroup_bit9 (b : Byte) : (dataGroup b).getLsbD 9 = true := getLsbD_group _ _ _ 9

@[simp] theorem dataGroup_bit0 (b : Byte) : (dataGroup b).getLsbD 0 = false := getLsbD_group _ _ _ 0

@[simp] theorem dataGroup_byte (b : Byte) : (dataGroup b).extractLsb' 1 8 = b := by
  refine BitVec.eq_of_getLsbD_eq fun i hi => ?_
  rw [BitVec.getLsbD_extractLsb']
  refine (congrArg _ (getLsbD_group 1#1 b 0#1 (1 + i))).trans ?_
  simp [hi, Nat.add_comm 1 i]

@[simp] theorem readGroup_dataGroup (b : Byte) : readGroup (dataGroup b) = .data b := by
  rw [readGroup, dataGroup_bit9, dataGroup_bit0, dataGroup_byte]
  rfl

@[simp] theorem readGroup_controlGroup (y : Symbol) : readGroup (controlGroup y) = .control y := by
  cases y <;> rfl

/-- A group is its outer bits and the byte between. -/
theorem group_eq (g : LaneGroup) : g = (BitVec.ofBool (g.getLsbD 9) ++ g.extractLsb' 1 8 ++ BitVec.ofBool (g.getLsbD 0) : BitVec (1 + 8 + 1)) := by
  refine BitVec.eq_of_getLsbD_eq fun i hi => ?_
  refine Eq.trans ?_ (getLsbD_group _ _ _ i).symm
  split
  · obtain rfl : i = 0 := by omega
    simp
  · split
    · rw [BitVec.getLsbD_extractLsb', Nat.add_sub_cancel' (by omega)]
      simp_all
    · obtain rfl : i = 9 := by omega
      simp

theorem dataGroup_of_readGroup {g : LaneGroup} {b : Byte} (h : readGroup g = .data b) : g = dataGroup b := by
  unfold readGroup at h
  split at h
  · cases h
  · rename_i outer
    split at h
    · rename_i top
      cases h
      have low : g.getLsbD 0 = false := by
        rw [top] at outer
        simpa using Ne.symm outer
      have whole := group_eq g
      rw [top, low] at whole
      exact whole
    · split at h
      · split at h <;> cases h
      · cases h

/-- The byte of a group in its two halves. -/
theorem group_halves (g : LaneGroup) : g.extractLsb' 1 8 = (g.extractLsb' 5 4 ++ g.extractLsb' 1 4 : BitVec (4 + 4)) := by
  refine BitVec.eq_of_getLsbD_eq fun i hi => ?_
  change _ = BitVec.getLsbD (w := 4 + 4) _ i
  rw [BitVec.getLsbD_append]
  split
  · simp_all
  · have same : 5 + (i - 4) = 1 + i := by omega
    have inside : i - 4 < 4 := by omega
    simp [hi, same, inside]

theorem symbolCode_of_symbolOfCode {c : BitVec 4} {y : Symbol} (h : symbolOfCode c = some y) : symbolCode y = c := by
  simpa using List.find?_some h

theorem controlGroup_of_readGroup {g : LaneGroup} {y : Symbol} (h : readGroup g = .control y) : g = controlGroup y := by
  unfold readGroup at h
  split at h
  · cases h
  · rename_i outer
    split at h
    · cases h
    · rename_i top
      split at h
      · rename_i check
        split at h
        · rename_i z found
          cases h
          have code := symbolCode_of_symbolOfCode found
          have low : g.getLsbD 0 = true := by
            simp only [Bool.not_eq_true] at top
            rw [top] at outer
            simpa using Ne.symm outer
          have whole := group_eq g
          rw [group_halves, check, ← code, Bool.eq_false_iff.2 top, low] at whole
          rw [whole]
          cases y <;> rfl
        · cases h
      · cases h

/-- Every group of the code is a data group or a control group. -/
theorem readGroup_cases (g : LaneGroup) :
    readGroup g = .invalid ∨ (∃ b, g = dataGroup b) ∨ ∃ y, g = controlGroup y := by
  cases h : readGroup g with
  | invalid => exact .inl rfl
  | data b => exact .inr (.inl ⟨b, dataGroup_of_readGroup h⟩)
  | control y => exact .inr (.inr ⟨y, controlGroup_of_readGroup h⟩)

theorem readGroup_outer_eq {g : LaneGroup} (outer : g.getLsbD 9 = g.getLsbD 0) : readGroup g = .invalid := by
  rw [readGroup, if_pos outer]

/-! ### Commands of a run of groups -/

section
variable {port : Port} {frame : Option (List Byte)} {bytes : List Byte} {groups more rest : List LaneGroup}

/-- The commands of a run less those that only set far lock. -/
def commandsBeyond (port : Port) (frame : Option (List Byte)) (groups : List LaneGroup) : List Instr :=
  (commandsOfGroups port frame groups).filter beyondFarLock

theorem commandsOfGroups_cons (g : LaneGroup) : commandsOfGroups port frame (g :: rest) =
    (commandsOfGroup port frame g).2 ++ commandsOfGroups port (commandsOfGroup port frame g).1 rest := rfl

theorem commandsBeyond_cons (g : LaneGroup) : commandsBeyond port frame (g :: rest) =
    (commandsOfGroup port frame g).2.filter beyondFarLock ++ commandsBeyond port (commandsOfGroup port frame g).1 rest := by
  rw [commandsBeyond, commandsOfGroups_cons, List.filter_append]
  rfl

/-- Within a frame the upstream receiver gathers data groups. -/
theorem commandsBeyond_data (bytes before : List Byte) : commandsBeyond .upstream (some before) (bytes.map dataGroup ++ rest) =
    commandsBeyond .upstream (some (before ++ bytes)) rest := by
  induction bytes generalizing before with
  | nil => simp
  | cons b bytes ih =>
    have one : commandsOfGroup .upstream (some before) (dataGroup b) =
        (some (before ++ [b]), [.farLockSet .upstream true (dataGroup b)]) := by
      simp [commandsOfGroup, receive]
    rw [List.map_cons, List.cons_append, commandsBeyond_cons, one, ih]
    simp [beyondFarLock]

/-- The groups of a frame bring one arrival (R181). -/
theorem commandsBeyond_frame (bytes : List Byte) (rest : List LaneGroup) :
    commandsBeyond .upstream none (forwardGroups (.frame bytes) ++ rest) =
      .frameArrival bytes :: commandsBeyond .upstream none rest := by
  have start : commandsOfGroup .upstream none (controlGroup .start) =
      (some [], [.farLockSet .upstream false (controlGroup .start)]) := rfl
  have stop : commandsOfGroup .upstream (some bytes) (controlGroup .stop) =
      (none, [.farLockSet .upstream true (controlGroup .stop), .frameArrival bytes]) := rfl
  rw [forwardGroups, List.cons_append, List.append_assoc, commandsBeyond_cons, start, commandsBeyond_data, List.nil_append,
    List.cons_append, commandsBeyond_cons, stop]
  rfl

theorem commandsOfGroups_train (port : Port) (n : Nat) : commandsOfGroups port none (List.replicate n (controlGroup .train)) =
    List.replicate n (.farLockClear port) := by
  have one : commandsOfGroup port none (controlGroup .train) = (none, [.farLockClear port]) := by
    cases port <;> rfl
  induction n with
  | zero => rfl
  | succ n ih =>
    rw [List.replicate_succ, commandsOfGroups_cons, one, ih]
    rfl

/-! ### Lanes -/

/-- What a port sends where its lane carries items, one item after another. -/
theorem forwardLane_normal {l : LinkState} (normal : l = .creditWait ∨ l = .up) (item : Option ForwardItem)
    (items : List (Option ForwardItem)) :
    forwardLane l (item :: items) = (item.elim [controlGroup .idle] forwardGroups) ++ forwardLane l items := by
  rcases normal with rfl | rfl <;> cases item <;> rfl

theorem returnLane_normal {l : LinkState} (normal : l = .creditWait ∨ l = .up) (item : Option ReturnSymbol)
    (items : List (Option ReturnSymbol)) :
    returnLane l (item :: items) = item.elim (controlGroup .idle) returnGroup :: returnLane l items := by
  rcases normal with rfl | rfl <;> cases item <;> rfl

theorem commandsBeyond_forwardLane {l : LinkState} (normal : l = .creditWait ∨ l = .up) (items : List (Option ForwardItem))
    (whole : ∀ bytes, some (.cutOff bytes) ∉ items) :
    commandsBeyond .upstream none (forwardLane l items) = items.filterMap forwardCommand := by
  induction items with
  | nil => rfl
  | cons item items ih =>
    have rest := ih fun bytes hb => whole bytes (List.mem_cons_of_mem _ hb)
    rw [forwardLane_normal normal]
    cases item with
    | none =>
      have idle : commandsOfGroup .upstream none (controlGroup .idle) =
          (none, [.farLockSet .upstream false (controlGroup .idle)]) := rfl
      rw [Option.elim_none, List.singleton_append, commandsBeyond_cons, idle, rest]
      rfl
    | some x =>
      cases x with
      | frame bytes =>
        rw [Option.elim_some, commandsBeyond_frame, rest]
        rfl
      | cutOff bytes => exact absurd List.mem_cons_self (whole bytes)
      | rebase =>
        have one : commandsOfGroup .upstream none (controlGroup .rebase) =
            (none, [.farLockSet .upstream false (controlGroup .rebase), .rebase]) := rfl
        rw [Option.elim_some, forwardGroups, List.singleton_append, commandsBeyond_cons, one, rest]
        rfl

theorem commandsBeyond_returnLane {l : LinkState} (normal : l = .creditWait ∨ l = .up) (items : List (Option ReturnSymbol)) :
    commandsBeyond .downstream none (returnLane l items) = items.filterMap returnCommand := by
  induction items with
  | nil => rfl
  | cons item items ih =>
    have one : commandsOfGroup .downstream none (item.elim (controlGroup .idle) returnGroup) =
        (none, .farLockSet .downstream false (item.elim (controlGroup .idle) returnGroup) :: (returnCommand item).toList) := by
      rcases item with - | - | - <;> rfl
    rw [returnLane_normal normal, commandsBeyond_cons, one, ih]
    rcases item with - | - | - <;> rfl

/-- A port in TRAINING sends TRAIN whatever it is given (R95). -/
theorem forwardLane_training (items : List (Option ForwardItem)) :
    forwardLane .training items = List.replicate items.length (controlGroup .train) := by
  induction items with
  | nil => rfl
  | cons item items ih =>
    rw [List.length_cons, List.replicate_succ, ← ih]
    cases item <;> rfl

theorem returnLane_training (items : List (Option ReturnSymbol)) :
    returnLane .training items = List.replicate items.length (controlGroup .train) := by
  induction items with
  | nil => rfl
  | cons item items ih =>
    rw [List.length_cons, List.replicate_succ, ← ih]
    cases item <;> rfl

theorem forwardLane_off (items : List (Option ForwardItem)) : forwardLane .off items = [] := by
  exact List.flatMap_eq_nil_iff.2 fun item _ => by cases item <;> rfl

theorem returnLane_off (items : List (Option ReturnSymbol)) : returnLane .off items = [] := by
  exact List.flatMap_eq_nil_iff.2 fun item _ => by cases item <;> rfl

theorem forwardLane_idle (n : Nat) : forwardLane .up (List.replicate n none) = List.replicate n (controlGroup .idle) := by
  induction n with
  | zero => rfl
  | succ n ih => rw [List.replicate_succ, forwardLane_normal (.inr rfl), ih]; rfl

theorem returnLane_idle (n : Nat) : returnLane .creditWait (List.replicate n none) = List.replicate n (controlGroup .idle) := by
  induction n with
  | zero => rfl
  | succ n ih => rw [List.replicate_succ, returnLane_normal (.inl rfl), ih]; rfl

end

/-- Settles O6. -/
theorem laneFrameArrives : Obligations.LaneFrameArrives :=
  ⟨readGroup_dataGroup, readGroup_controlGroup, readGroup_cases, fun _ => readGroup_outer_eq,
    commandsBeyond_frame, fun items => ⟨forwardLane_training items, forwardLane_off items⟩,
    fun items => ⟨returnLane_training items, returnLane_off items⟩, fun n => ⟨forwardLane_idle n, returnLane_idle n⟩,
    by decide, commandsOfGroups_train, fun _ items normal whole => commandsBeyond_forwardLane normal items whole,
    fun _ items normal => commandsBeyond_returnLane normal items⟩

end Sys2Proof.Machine
end

section
/-! PROOF. The transactions of the host port: the status byte, short and unknown transactions, and what each complete one does
(R165 to R169, R175, R178). -/

namespace Sys2Proof.Machine

section
variable {s t : State} {x : Transfer} {k : Transaction} {b : Byte} {data : List Byte}

theorem exec_spiRow (k : Transaction) (e : SpiEvent) (s : State) : exec (spiRow k e) s = .next (transact k e s) := by
  cases k <;> rfl

theorem transactionOf_eq_none (h : b ∉ ([0x10, 0x20, 0x21, 0x30, 0x31, 0xA5] : List Byte)) : transactionOf b = none := by
  refine List.find?_eq_none.2 fun k _ => ?_
  rw [beq_iff_eq]
  rintro rfl
  cases k <;> exact h (by decide)

/-! ### What the rows do to the transaction in progress -/

/-- A complete transaction (R165). -/
theorem transact_complete (h : s.host.spi = some x) (code : x.code = some (transactionCode k)) (whole : bytesNeeded k ≤ data.length) :
    transact k (.rise data) s = endTransfer x data.length (closeEffect k x.headShown data s) := by
  rw [transact_rise h code, if_pos whole]

theorem transact_noTransfer (h : s.host.spi = none) (k : Transaction) {e : SpiEvent} (notFall : e ≠ .fall) : transact k e s = s := by
  cases e with
  | fall => exact absurd rfl notFall
  | code b => simp [transact, spiCode, h]
  | rise data => simp [transact, spiRise, h]

theorem transact_fall_idle (h : s.resetn = false ∨ s.host.spi ≠ none) (k : Transaction) : transact k .fall s = s := by
  rcases h with h | h <;> simp [transact, spiFall, h]

/-- A byte that is no transaction code has no reply (R165). -/
theorem transact_unknownCode (h : s.host.spi = some x) (none' : x.code = none) (unknown : transactionOf b = none) (k : Transaction) :
    transact k (.code b) s = { s with host := { s.host with
      spi := some { status := x.status, code := some b, reply := [], headShown := false } } } := by
  simp [transact, spiCode, h, none', eventFits, unknown]

theorem transact_rise_unknown (h : s.host.spi = some x) (unknown : x.code.bind transactionOf = none) (k : Transaction)
    (data : List Byte) : transact k (.rise data) s = endTransfer x data.length s := by
  simp [transact, spiRise, h, unknown]

/-- The bytes of the read that has shifted out its whole reply (R165). -/
theorem shiftedOut_whole (h : x.code = some b) {n : Nat} (whole : x.reply.length ≤ n) :
    shiftedOut x n = x.status :: (x.reply ++ List.replicate (n - x.reply.length) 0) := by
  simp [shiftedOut, h, List.take_append, List.take_of_length_le whole]

theorem shiftedOut_noReply (h : x.code = some b) (none' : x.reply = []) (n : Nat) :
    shiftedOut x n = x.status :: List.replicate n 0 := by
  simp [shiftedOut, h, none']

theorem length_shiftedOut (h : x.code = some b) (n : Nat) : (shiftedOut x n).length = n + 1 := by
  simp [shiftedOut, h]

theorem spiCode_transfer (h : s.host.spi = some x) (k : Transaction) (b : Byte) :
    ∃ y, (spiCode k b s).host.spi = some y ∧ y.status = x.status := by
  simp only [spiCode, h]
  split
  · split
    · obtain ⟨-, spi, -⟩ := (Moves.quiet (moves_codeByteEffect k _)).portKept
      exact ⟨_, spi, rfl⟩
    · exact ⟨_, rfl, rfl⟩
  · exact ⟨x, h, rfl⟩

theorem transact_rise_shown (h : s.host.spi = some x) (code : x.code = some b) (fits : b = transactionCode k ∨ transactionOf b = none)
    (data : List Byte) : ∃ u, transact k (.rise data) s = endTransfer x data.length u := by
  rcases fits with rfl | unknown
  · exact ⟨_, transact_rise h code data⟩
  · exact ⟨s, transact_rise_unknown h (by simp [code, unknown]) k data⟩

/-! ### The status byte -/

/-- The bits of the status byte, from its flags and the station state (11.3). -/
theorem statusByte_bits (ready full overrun : Bool) (st : StationState) :
    let b := flagBit ready 0x80 ||| flagBit full 0x40 ||| flagBit overrun 0x20 ||| stateCode st
    b.getLsbD 7 = ready ∧ b.getLsbD 6 = full ∧ b.getLsbD 5 = overrun ∧ b.getLsbD 4 = false ∧ b.getLsbD 3 = false ∧
      b.extractLsb' 0 3 = (match st with
        | .unconfigured => 0 | .forming => 1 | .active => 2 | .isolated => 3
        | .leaving => 4 | .detached => 5 | .halted => 6 : BitVec 3) := by
  cases st <;> revert ready full overrun <;> decide

end

/-- Settles O11. -/
theorem statusByteShown : Obligations.StatusByteShown := by
  simp only [Obligations.StatusByteShown, exec_spiRow]
  refine ⟨fun k s high idle => congrArg _ (transact_fall high idle k), fun k b s x spi => ?_, fun k b data s x spi code fits => ?_,
    fun s => ?_, fun k e s idle notFall => congrArg _ (transact_noTransfer idle k notFall),
    fun k s idle => congrArg _ (transact_fall_idle idle k)⟩
  · obtain ⟨y, shown, status⟩ := spiCode_transfer spi k b
    exact ⟨_, y, rfl, shown, status, (portKept_spiCode k b s).1.overrun⟩
  · obtain ⟨u, ended⟩ := transact_rise_shown spi code fits data
    refine ⟨_, rfl, ?_⟩
    rw [ended]
    exact ⟨by simp [endTransfer, shiftedOut, code], length_shiftedOut code _, rfl⟩
  · obtain ⟨ready, full, overrun, four, three, state⟩ := statusByte_bits (!s.host.results.isEmpty)
      (s.host.commands.length == Config.commandDepth) s.host.overrun s.ctl.state
    exact ⟨ready, ready, full, overrun, four, three, state⟩

/-- Settles O12. -/
theorem shortTransactionIgnored : Obligations.ShortTransactionIgnored := by
  simp only [Obligations.ShortTransactionIgnored, exec_spiRow]
  refine ⟨fun k => by cases k <;> rfl, fun k data s x spi code short => ?_, fun k b data s x unknown spi => ?_,
    fun k data s x spi code => ?_⟩
  · rw [transact_rise spi code, if_neg (Nat.not_le.2 short)]
    simp [endTransfer, transferEnded, shiftedOut, code]
  · have unknown : transactionOf b = none := transactionOf_eq_none unknown
    refine ⟨fun code => congrArg _ (transact_unknownCode spi code unknown k), fun code reply => ?_⟩
    rw [transact_rise_unknown spi (by simp [code, unknown])]
    simp only [endTransfer, transferEnded, shiftedOut_noReply code reply]
  · rw [transact_rise_unknown spi (by simp [code])]
    simp [endTransfer, transferEnded, shiftedOut, code]

/-! ### Complete transactions -/

theorem spiRow_writeCommand (e : SpiEvent) (s : State) : exec (.writeCommand e) s = .next (transact .writeCommand e s) := rfl
theorem spiRow_readResult (e : SpiEvent) (s : State) : exec (.readResult e) s = .next (transact .readResult e s) := rfl
theorem spiRow_readStatus (e : SpiEvent) (s : State) : exec (.readStatus e) s = .next (transact .readStatus e s) := rfl
theorem spiRow_writeIndex (e : SpiEvent) (s : State) : exec (.writeIndex e) s = .next (transact .writeIndex e s) := rfl
theorem spiRow_readWindow (e : SpiEvent) (s : State) : exec (.readWindow e) s = .next (transact .readWindow e s) := rfl

/-- Settles O13. -/
theorem writeCommandAcceptsOrDiscards : Obligations.WriteCommandAcceptsOrDiscards := by
  intro s status data whole spi
  rw [spiRow_writeCommand, transact_complete (k := .writeCommand) spi rfl whole, endTransfer, shiftedOut_noReply rfl rfl]
  refine ⟨fun room => ?_, fun full => ?_⟩
  · simp only [closeEffect, acceptCommand, Config.commandDepth, room, if_true]
  · simp only [closeEffect, acceptCommand, Config.commandDepth, Nat.not_lt.2 full, if_false]

/-- The byte of a window space (11.3). -/
def spaceByte : WindowSpace → Byte
  | .station => 0x01
  | .link => 0x02
  | .record => 0x03

theorem windowSpace_eq_some {x : Byte} {space : WindowSpace} : windowSpace x = some space ↔ x = spaceByte space := by
  refine ⟨fun h => ?_, fun h => h ▸ by cases space <;> rfl⟩
  unfold windowSpace at h
  split at h
  · cases h
    assumption
  · split at h
    · cases h
      assumption
    · split at h
      · cases h
        assumption
      · cases h

/-- What a WRITE_INDEX must name (R178, R185). -/
theorem writtenIndex_eq_some {x y z : Byte} {more : List Byte} {index : WindowIndex} :
    writtenIndex (x :: y :: z :: more) = some index ↔
      x = spaceByte index.space ∧ y.toNat = index.slot.val ∧ z.toNat = index.group ∧ index.group ≤ lastGroup index.space := by
  have bytes : byteAt (x :: y :: z :: more) 0 = x ∧ byteAt (x :: y :: z :: more) 1 = y ∧ byteAt (x :: y :: z :: more) 2 = z :=
    ⟨rfl, rfl, rfl⟩
  obtain ⟨hx, hy, hz⟩ := bytes
  rw [writtenIndex, hx, hy, hz]
  constructor
  · intro written
    split at written
    · cases written
    · rename_i space named
      split at written
      · split at written
        · rename_i group
          cases written
          exact ⟨windowSpace_eq_some.1 named, rfl, rfl, group⟩
        · cases written
      · cases written
  · rintro ⟨space, slot, group, bound⟩
    have inside : y.toNat < 64 := slot ▸ index.slot.isLt
    have same : (⟨y.toNat, inside⟩ : SlotNo) = index.slot := Fin.ext slot
    simp only [windowSpace_eq_some.2 space, dif_pos inside, group, if_pos bound, same]

/-- A complete WRITE_INDEX, from what its three bytes name (R178). -/
theorem exec_writeIndex {s : State} {status x y z : Byte} {more : List Byte}
    (spi : s.host.spi = some { status := status, code := some 0x30, reply := [], headShown := false }) :
    exec (.writeIndex (.rise (x :: y :: z :: more))) s = .next { s with host := { s.host with
      index := (writtenIndex (x :: y :: z :: more)).getD s.host.index
      spi := none
      sdo := status :: List.replicate (more.length + 3) 0 } } := by
  rw [spiRow_writeIndex, transact_complete (k := .writeIndex) spi rfl (by simp [bytesNeeded]), endTransfer, shiftedOut_noReply rfl rfl]
  rfl

/-- Settles O15: the three tests of the index bytes. -/
theorem writeIndexTested : Obligations.WriteIndexTested := by
  intro s status x y z more spi
  rw [exec_writeIndex spi]
  refine ⟨?valid, ?invalid⟩
  case valid =>
    intro space slot hx hy hz
    have written : writtenIndex (x :: y :: z :: more) = some { space := space, slot := slot, group := z.toNat } :=
      writtenIndex_eq_some.2 ⟨by rw [hx]; cases space <;> rfl, hy, rfl, by cases space <;> exact hz⟩
    rw [written, Option.getD_some]
  case invalid =>
    intro wrong
    have none' : writtenIndex (x :: y :: z :: more) = none := by
      refine Option.eq_none_iff_forall_ne_some.2 fun index written => ?_
      obtain ⟨hx, hy, hz, group⟩ := writtenIndex_eq_some.1 written
      have slot := index.slot.isLt
      rw [hx, hy, hz] at wrong
      cases h : index.space <;> simp [h, spaceByte, lastGroup] at wrong group <;> omega
    rw [none']
    rfl

/-- A read is fixed at the end of its code byte (R167, R175). -/
theorem transact_read {s : State} {x : Transfer} {k : Transaction} (h : s.host.spi = some x) (none' : x.code = none)
    (quiet : codeByteEffect k = id) : transact k (.code (transactionCode k)) s = { s with host := { s.host with
      spi := some { x with
        code := some (transactionCode k), reply := replyBytes s k
        headShown := k == .readResult && !s.host.results.isEmpty } } } := by
  rw [transact_code h none', quiet]
  rfl

theorem Halts.of_hosted {cause : HaltCause} {s t : State} {p : HostPort} (h : Halts cause { s with host := p } t) :
    Halts cause s t :=
  ⟨h.control, h.upPort, h.downPort, h.queues, h.scanner, h.shadow, h.census, h.clock, h.kept, h.freed, h.sound⟩

/-- Settles O17: the slot is read at the end of the code byte, the reply fixed before. -/
theorem windowReadChecksSlot : Obligations.WindowReadChecksSlot := by
  intro s x spi none' record damaged
  refine ⟨_, spiRow_readWindow _ s, ?_⟩
  have code := transact_code spi none' .readWindow
  simp only [codeByteEffect, checkWindowRead, record, damaged, if_true] at code
  refine ⟨fun live => ?_, fun halted => ?_⟩
  · obtain ⟨halts, host⟩ := tableCheck_halts (s := { s with host := { s.host with
      spi := some { x with code := some 0x31, reply := windowGroup s, headShown := false } } }) live s.host.index.slot
    exact ⟨code ▸ halts.of_hosted, code ▸ host⟩
  · refine code.trans ?_
    rw [tableCheck, if_pos halted]
    rfl

end Sys2Proof.Machine
end

section
/-! PROOF. What a READ_RESULT, a READ_STATUS and a READ_WINDOW show, byte for byte (R167, R175, R179, R186, 11.3). -/

namespace Sys2Proof.Machine

/-! ### Bits and codes -/

@[simp] theorem flagBit_getLsbD (b : Bool) (v : Byte) (i : Nat) : (flagBit b v).getLsbD i = (b && v.getLsbD i) := by
  cases b <;> simp [flagBit]

@[simp] theorem flagBit_getElem (b : Bool) (v : Byte) {i : Nat} (hi : i < 8) : (flagBit b v)[i] = (b && v[i]) := by
  cases b <;> simp [flagBit]

@[simp] theorem flagBit_outside (b : Bool) {v : Byte} {i n : Nat} (h : v.extractLsb' i n = 0#n) : (flagBit b v).extractLsb' i n = 0#n := by
  cases b <;> simp [flagBit, h]

theorem flagBit_one (b : Bool) : flagBit b 1#8 = if b then 1#8 else 0#8 := rfl

theorem fieldAt_zeros {bs : List Byte} (zeros : ∀ b ∈ bs, b = 0#8) (i n : Nat) : fieldAt bs i n = 0 := by
  have all : ∀ b ∈ (bs.drop i).take n, b = 0#8 := fun b hb => zeros b (List.mem_of_mem_drop (List.mem_of_mem_take hb))
  rw [fieldAt]
  generalize (bs.drop i).take n = run at all
  induction run with
  | nil => rfl
  | cons b run ih =>
    rw [fromBytes_cons, all b List.mem_cons_self, ih fun c hc => all c (List.mem_cons_of_mem _ hc)]
    simp

theorem completionCodes_byte (c : CompletionCode) : completionCodes[(completionByte c).toNat]? = some c := by
  cases c <;> rfl

theorem noticeCodes_bytes (n : Notice) : ((noticeByte n).toNat, (noticeCauseByte n).toNat) = noticeCodes n := by
  rcases n with - | c | c | - | - | c
  case waiting => cases c <;> rfl
  case failed => cases c <;> rfl
  case revoked => cases c <;> rfl
  all_goals rfl

theorem recordStates_byte (st : RecState) :
    1 ≤ (recStateByte st).toNat ∧ recordStates[(recStateByte st).toNat - 1]? = some st := by
  cases st <;> exact ⟨by decide, rfl⟩

theorem stationStates_code (st : StationState) : stationStates[(stateCode st).toNat]? = some st := by
  cases st <;> rfl

theorem leaveOutcomes_byte (out : Option LeaveOutcome) : leaveOutcomes[(leaveOutcomeByte out).toNat]? = some out := by
  rcases out with - | - | - | - <;> rfl

theorem haltCauses_byte (cause : Option HaltCause) : haltCauses[((cause.map haltCauseByte).getD 0#8).toNat]? = some cause := by
  rcases cause with - | - | - | - <;> rfl

/-! ### Result records -/

/-- Every result record is 16 bytes, its fields at their places (11.3). -/
theorem resultBytes_laidOut (r : ResultRecord) : (resultBytes r).length = 16 ∧ resultLaidOut (resultBytes r) r := by
  cases r with
  | completion code command seq slot tag =>
    refine ⟨by simp [resultBytes, word16Bytes], ?_⟩
    simp [resultLaidOut, resultBytes, word16Bytes, completionCodes_byte, toNat_mod_width, fieldAt_zeros]
  | recordNotice n replaced slot tag st term =>
    refine ⟨by simp [resultBytes, word16Bytes], ?_⟩
    have small : slot.val % 256 = slot.val := Nat.mod_eq_of_lt (by omega)
    simp [resultLaidOut, resultBytes, word16Bytes, noticeCodes_bytes, recordStates_byte, toNat_mod_width, fieldAt_zeros, flagBit_one, small]
  | started cause =>
    refine ⟨by simp [resultBytes], ?_⟩
    cases cause <;> simp [resultLaidOut, resultBytes, startCauseByte, fieldAt_zeros]
  | state n replaced =>
    refine ⟨by simp [resultBytes, word32Bytes], ?_⟩
    simp [resultLaidOut, resultBytes, word32Bytes, stationStates_code, leaveOutcomes_byte, countByte, toNat_mod_width, fieldAt_zeros, flagBit_one]
  | fault cause replaced =>
    refine ⟨by simp [resultBytes], ?_⟩
    rcases cause with c | -
    · cases c <;> simp [resultLaidOut, resultBytes, faultCauseByte, haltCauseByte, fieldAt_zeros, flagBit_one]
    · simp [resultLaidOut, resultBytes, faultCauseByte, fieldAt_zeros, flagBit_one]

section
variable {s : State} {x : Transfer} {data : List Byte}

theorem transact_readWindow (spi : s.host.spi = some x) (none' : x.code = none)
    (sound : s.host.index.space = .record → (s.table.get s.host.index.slot).damaged = false) :
    transact .readWindow (.code 0x31) s = { s with host := { s.host with
      spi := some { x with code := some 0x31, reply := windowGroup s, headShown := false } } } := by
  refine (transact_code spi none' .readWindow).trans ?_
  simp only [codeByteEffect, checkWindowRead]
  split
  · rename_i record
    simp only [sound record, Bool.false_eq_true, if_false]
    rfl
  · rfl

end

/-- Settles O14. -/
theorem readResultAndStatus : Obligations.ReadResultAndStatus := by
  refine ⟨fun s x spi none' => ?_, fun s x data spi code reply whole => ?_, fun s x spi none' => ?_,
    fun s x data spi code reply whole => ?_, resultBytes_laidOut⟩
  · rw [spiRow_readResult]
    refine congrArg _ ((transact_read (k := .readResult) spi none' rfl).trans ?_)
    cases results : s.host.results <;> simp [replyBytes, results, emptyRecord, transactionCode]
  · rw [spiRow_readResult, transact_complete (k := .readResult) spi code whole, endTransfer,
      shiftedOut_whole code (reply.trans_le whole), reply]
    simp only [closeEffect, List.drop_one]
  · rw [spiRow_readStatus]
    exact congrArg _ (transact_read (k := .readStatus) spi none' rfl)
  · rw [spiRow_readStatus, transact_complete (k := .readStatus) spi code whole, endTransfer,
      shiftedOut_whole code (reply.trans_le whole), reply]
    rfl

/-! ### The window -/

@[simp] theorem length_packIds (ids : List StationId) : (packIds ids).length = 8 := by simp [packIds]

theorem packedId_halves : ∀ first second : StationId,
    (first ++ second : BitVec (4 + 4)).extractLsb' 4 4 = first ∧ (first ++ second : BitVec (4 + 4)).extractLsb' 0 4 = second := by
  decide

theorem packIds_laidOut (ids : List StationId) : rosterLaidOut (packIds ids) ids := by
  intro k hk
  have byte : byteAt (packIds ids) k = (ids.getD (2 * k) 0 ++ ids.getD (2 * k + 1) 0 : BitVec (4 + 4)) := by
    have inside : k < (packIds ids).length := by rwa [length_packIds]
    rw [byteAt, List.getD_eq_getElem _ _ inside]
    simp [packIds]
  rw [byte]
  exact packedId_halves _ _

theorem length_windowGroup (s : State) : (windowGroup s).length = 8 := by
  unfold windowGroup
  split
  · unfold stationGroup
    split <;> simp [word32Bytes, word16Bytes, timerBytes]
  · unfold linkGroup
    split <;> rfl
  · split
    · rfl
    · unfold recordGroup
      split <;> simp [word32Bytes, word16Bytes, timerBytes]

theorem timer_shown (t : Option Word16) : (t.getD 0#16).toNat = ticksShown t := by
  cases t <;> rfl

@[simp] theorem ticksShown_lt (t : Option Word16) : ticksShown t < 65536 := by
  cases t with
  | none => exact Nat.zero_lt_succ _
  | some w => exact w.isLt

theorem station_laidOut (s : State) (slot : SlotNo) : stationLaidOut s (groupShown s .station slot) := by
  have group : ∀ n, groupShown s .station slot n = stationGroup s n := fun _ => rfl
  simp only [stationLaidOut, group, stationGroup]
  refine ⟨?_, ?_, ?_, ?_, ?_, packIds_laidOut _, packIds_laidOut _⟩
  · simp [stationStates_code, haltCauses_byte, leaveOutcomes_byte, countByte, State.fenceActive, State.stationId, toNat_mod_width,
      BitVec.extractLsb'_or]
  · simp [word32Bytes, toNat_mod_width]
  · simp [word16Bytes, toNat_mod_width]
    cases s.census.bestKey <;> rfl
  · simp [word16Bytes, word32Bytes, toNat_mod_width]
    cases s.census.bestKey <;> rfl
  · simp [timerBytes, word16Bytes, timer_shown]

theorem linkStates_byte (l : LinkState) : linkStates[(linkByte l).toNat]? = some l := by
  cases l <;> rfl

theorem link_laidOut (s : State) (slot : SlotNo) : linkLaidOut s (groupShown s .link slot) := by
  have group : ∀ n, groupShown s .link slot n = linkGroup s n := fun _ => rfl
  simp only [linkLaidOut, group, linkGroup]
  refine ⟨?_, ?_⟩
  · simp [linkStates_byte, countByte, BitVec.extractLsb'_or, fieldAt_zeros]
  · simp [countByte, fieldAt_zeros]
    rcases s.fh.inSend with - | x
    · rfl
    · cases h : x.source <;> simp [h]

theorem outcomeCodes_byte (out : Option RecOutcome) : outcomeCodes[(outcomeByte out).toNat]? = some out := by
  rcases out with - | (- | - | - | c | c | -)
  case some.failed => cases c <;> rfl
  case some.revoked => cases c <;> rfl
  all_goals rfl

theorem dueCodes_bytes (due : Option Due) : ((dueKindByte due).toNat, (dueCauseByte due).toNat) = dueCodes due := by
  rcases due with - | (- | c | c)
  case some.announce => cases c <;> rfl
  case some.release => cases c <;> rfl
  all_goals rfl

/-- Kind and state in one byte (R186). -/
theorem kindState_laidOut (k : Kind) (st : RecState) :
    let b : Byte := (match k with | .own => 0x10 | .shadow => 0x20) ||| recStateByte st
    b.extractLsb' 4 4 = (if k = .own then 1 else 2 : BitVec 4) ∧ 1 ≤ (b.extractLsb' 0 4).toNat ∧
      recordStates[(b.extractLsb' 0 4).toNat - 1]? = some st := by
  cases k <;> cases st <;> exact ⟨rfl, by decide, rfl⟩

/-- Notice cause and two flags in one byte (R186). -/
theorem causeFlags_laidOut : ∀ (c : BitVec 4) (reported replaced : Bool),
    let b : Byte := c.setWidth 8 ||| flagBit reported 0x40 ||| flagBit replaced 0x80
    b.extractLsb' 0 4 = c ∧ b.getLsbD 6 = reported ∧ b.getLsbD 7 = replaced := by
  decide

theorem noticeCauseByte_small (n : Notice) : noticeCauseByte n = ((noticeCauseByte n).setWidth 4).setWidth 8 := by
  rcases n with - | c | c | - | - | c
  case waiting => cases c <;> rfl
  case failed => cases c <;> rfl
  case revoked => cases c <;> rfl
  all_goals rfl

/-- Loss count and WAITING cause in one byte (R186). -/
theorem lossCause_laidOut {n : Nat} (bound : n ≤ 3) (cause : Option WaitCause) :
    let b : Byte := countByte n ||| ((cause.map waitCauseByte).getD 0 <<< 4)
    (b.extractLsb' 0 2).toNat = n ∧ ([none, some .localScan, some .remote, some .epoch] : List (Option WaitCause))[
      (b.extractLsb' 4 2).toNat]? = some cause := by
  interval_cases n <;> rcases cause with - | - | - | - <;> exact ⟨rfl, rfl⟩

theorem record_laidOut {s : State} {slot : SlotNo} {r : Record} (held : s.record slot = some r) :
    recordLaidOut r (groupShown s .record slot) := by
  have group : ∀ n, groupShown s .record slot n = recordGroup r n := by
    intro n
    have held : (s.table.get slot).content = some r := held
    simp only [groupShown, windowGroup, held]
  obtain ⟨kind, some', state⟩ := kindState_laidOut r.kind r.state
  have notice : ∃ c : BitVec 4, (r.notice.map fun m => noticeCauseByte m.notice).getD 0 = c.setWidth 8 ∧
      (((r.notice.map fun m => noticeByte m.notice).getD 0).toNat, c.toNat) =
        (r.notice.map fun m => noticeCodes m.notice).getD (0, 0) := by
    cases r.notice with
    | none => exact ⟨0, rfl, rfl⟩
    | some m =>
      refine ⟨_, noticeCauseByte_small m.notice, ?_⟩
      have codes := noticeCodes_bytes m.notice
      rw [noticeCauseByte_small, BitVec.toNat_setWidth, toNat_mod_width _ (by decide)] at codes
      exact codes
  obtain ⟨c, cause, codes⟩ := notice
  obtain ⟨causeBits, reported, replaced⟩ := causeFlags_laidOut c r.waitingReported (r.notice.any (·.replaced))
  have first : ∀ k, byteAt (recordGroup r 0) (k + 4) = byteAt
      [(r.notice.map fun m => noticeByte m.notice).getD 0,
        c.setWidth 8 ||| flagBit r.waitingReported 0x40 ||| flagBit (r.notice.any (·.replaced)) 0x80,
        r.identity.id.setWidth 8, flagBit r.objected 0x01 ||| flagBit r.noWait 0x02 ||| flagBit r.releaseSeen 0x04] k := by
    intro k
    simp only [recordGroup, cause]
    rfl
  simp only [recordLaidOut, group]
  refine ⟨⟨kind, some', state, ?_, ?_, ?_, ?_, ?_, ?_, ?_, ?_, ?_⟩, ?_, ?_, ?_, ?_⟩
  · cases h : r.mode <;> simp [recordGroup, modeByte, h]
  · simp [recordGroup, word16Bytes, toNat_mod_width]
  · rw [first 0, first 1]
    change (_, (BitVec.extractLsb' 0 4 (c.setWidth 8 ||| flagBit r.waitingReported 0x40 |||
      flagBit (r.notice.any (·.replaced)) 0x80)).toNat) = _
    rw [causeBits]
    exact codes
  · rw [first 1]; exact reported
  · rw [first 1]; exact replaced
  · rw [first 2]
    simp [toNat_mod_width]
  · rw [first 3]; simp
  · rw [first 3]; simp
  · rw [first 3]; simp
  · simp [recordGroup, toNat_mod_width, outcomeCodes_byte, dueCodes_bytes]
  · simp [recordGroup, word32Bytes, toNat_mod_width]
  · refine ⟨by simp [recordGroup, toNat_mod_width], by simp [recordGroup], fun bound => ?_, by simp [recordGroup], by simp [recordGroup]⟩
    have byte : byteAt (recordGroup r 3) 6 = countByte r.lossCount ||| ((r.waitCause.map waitCauseByte).getD 0 <<< 4) := by
      simp [recordGroup]
    rw [byte]
    exact lossCause_laidOut bound r.waitCause
  · simp [recordGroup, word16Bytes, timerBytes, timer_shown, toNat_mod_width, fieldAt_zeros]

/-- The advance of the index (R179). -/
theorem advanceIndex_spec (i : WindowIndex) : (advanceIndex i).space = i.space ∧
    (i.group < lastGroup i.space → (advanceIndex i).group = i.group + 1 ∧ (advanceIndex i).slot = i.slot) ∧
    (lastGroup i.space ≤ i.group → (advanceIndex i).group = 0 ∧
      (i.space ≠ .record → (advanceIndex i).slot = i.slot) ∧
      (i.space = .record → (advanceIndex i).slot.val = (i.slot.val + 1) % 64)) := by
  unfold advanceIndex
  split
  · rename_i below
    exact ⟨rfl, fun _ => ⟨rfl, rfl⟩, fun above => absurd below (Nat.not_lt.2 above)⟩
  · rename_i above
    split
    · rename_i record
      exact ⟨rfl, fun below => absurd below above, fun _ => ⟨rfl, fun h => absurd record h, fun _ => Fin.val_add ..⟩⟩
    · rename_i other
      exact ⟨rfl, fun below => absurd below above, fun _ => ⟨rfl, fun _ => rfl, fun h => absurd h other⟩⟩

/-- Settles O16. -/
theorem readWindowShowsAndAdvances : Obligations.ReadWindowShowsAndAdvances := by
  refine ⟨fun s x spi none' sound => congrArg _ (transact_readWindow spi none' sound), fun s x data spi code reply whole => ?_,
    length_windowGroup, fun s slot => ⟨station_laidOut s slot, link_laidOut s slot⟩, fun s slot r held => record_laidOut held,
    fun s slot group free => ?_⟩
  · refine ⟨advanceIndex s.host.index, ?_, advanceIndex_spec _⟩
    rw [spiRow_readWindow, transact_complete (k := .readWindow) spi code whole, endTransfer,
      shiftedOut_whole code (reply.trans_le whole), reply]
    rfl
  · have free : (s.table.get slot).content = none := free
    simp only [groupShown, windowGroup, free]

end Sys2Proof.Machine
end

section
/-! PROOF. A command taken, through its body: refusals, CONFIGURE, and the commands that name a slot (R20, R34, R51 to R55,
R152 to R154, R170, R171). -/

namespace Sys2Proof.Machine

section
variable {s t : State} {e : CommandEntry} {rest : List CommandEntry}
  {body : CommandEntry → State → Completion × State} {which : Option HostCommand} {code : CompletionCode} {slot : Byte}
  {tag : Word16}

/-! ### A command taken -/

/-- The state that a command's body runs on, the oldest record removed (R170). -/
def taken (rest : List CommandEntry) (s : State) : State := withHost { s.host with commands := rest } s

@[simp] theorem taken_record (i : SlotNo) : (taken rest s).record i = s.record i := rfl
@[simp] theorem taken_table : (taken rest s).table = s.table := rfl
@[simp] theorem taken_ctl : (taken rest s).ctl = s.ctl := rfl
@[simp] theorem taken_census : (taken rest s).census = s.census := rfl
@[simp] theorem taken_clock : (taken rest s).clock = s.clock := rfl

theorem takeCommand_body {c : Completion} (h : Granted s e rest) (row : hostCommand (byteAt e.bytes 0) = which)
    (run : body e (taken rest s) = (c, t)) : takeCommand which body s = placeCompletion e c t := by
  rw [takeCommand_granted h row]
  exact congrArg (fun out => placeCompletion e out.1 out.2) run

/-- A body that changes nothing leaves its completion alone. -/
theorem takeCommand_completed (h : Granted s e rest) (row : hostCommand (byteAt e.bytes 0) = which)
    (run : body e (taken rest s) = ({ code := code, slot := slot, tag := tag }, taken rest s)) :
    takeCommand which body s = completed s e rest code slot tag := takeCommand_body h row run

theorem ifConfigured_true (h : s.ctl.configured = true) : ifConfigured body e s = body e s := if_pos h

theorem ifConfigured_false (h : s.ctl.configured = false) : ifConfigured body e s = (notConfigured e, s) :=
  if_neg (by simp [h])

theorem takeKnown_body {c : Completion} (h : Granted s e rest) (row : hostCommand (byteAt e.bytes 0) = which)
    (configured : s.ctl.configured = true) (run : body e (taken rest s) = (c, t)) :
    takeCommand which (ifConfigured body) s = placeCompletion e c t :=
  takeCommand_body h row ((ifConfigured_true (s := taken rest s) configured).trans run)

theorem takeKnown_completed (h : Granted s e rest) (row : hostCommand (byteAt e.bytes 0) = which)
    (configured : s.ctl.configured = true)
    (run : body e (taken rest s) = ({ code := code, slot := slot, tag := tag }, taken rest s)) :
    takeCommand which (ifConfigured body) s = completed s e rest code slot tag := takeKnown_body h row configured run

theorem takeKnown_unconfigured (h : Granted s e rest) (row : hostCommand (byteAt e.bytes 0) = which)
    (unconfigured : s.ctl.configured = false) (run : notConfigured e = { code := code, slot := slot, tag := tag }) :
    takeCommand which (ifConfigured body) s = completed s e rest code slot tag :=
  takeCommand_completed h row ((ifConfigured_false (s := taken rest s) unconfigured).trans (by rw [run]))

section
variable {b : Byte}
theorem hostCommand_configure (h : b = 0x01) : hostCommand b = some .configure := by subst h; rfl
theorem hostCommand_claim (h : b = 0x40) : hostCommand b = some .claim := by subst h; rfl
theorem hostCommand_cancel (h : b = 0x41) : hostCommand b = some .cancel := by subst h; rfl
theorem hostCommand_release (h : b = 0x42) : hostCommand b = some .release := by subst h; rfl
theorem hostCommand_renew (h : b = 0x43) : hostCommand b = some .renew := by subst h; rfl
theorem hostCommand_resync (h : b = 0x50) : hostCommand b = some .resync := by subst h; rfl
theorem hostCommand_leave (h : b = 0x51) : hostCommand b = some .leave := by subst h; rfl
theorem hostCommand_unknown (h : b ∉ ([0x01, 0x40, 0x41, 0x42, 0x43, 0x50, 0x51] : List Byte)) : hostCommand b = none := by
  simp only [List.mem_cons, List.not_mem_nil, or_false, not_or] at h
  obtain ⟨h1, h2, h3, h4, h5, h6, h7⟩ := h
  simp only [hostCommand, h1, h2, h3, h4, h5, h6, h7, if_false]
end

/-- Settles O20: an unknown code is taken before the configured flag is looked at, every other code behind it. -/
theorem unknownAndUnconfigured : Obligations.UnknownAndUnconfigured := by
  refine ⟨fun s e rest granted unknown => ?_, fun s e rest granted unconfigured => ⟨?_, ?_, ?_, ?_, ?_, ?_⟩⟩
  · exact congrArg _ (takeCommand_completed granted (hostCommand_unknown unknown) rfl)
  · intro code
    refine congrArg _ (takeKnown_unconfigured granted (hostCommand_claim code) unconfigured ?_)
    rw [notConfigured, hostCommand_claim code]; rfl
  · intro code
    refine congrArg _ (takeKnown_unconfigured granted (hostCommand_cancel code) unconfigured ?_)
    rw [notConfigured, hostCommand_cancel code]
  · intro code
    refine congrArg _ (takeKnown_unconfigured granted (hostCommand_release code) unconfigured ?_)
    rw [notConfigured, hostCommand_release code]
  · intro code
    refine congrArg _ (takeKnown_unconfigured granted (hostCommand_renew code) unconfigured ?_)
    rw [notConfigured, hostCommand_renew code]
  · intro code
    refine congrArg _ (takeKnown_unconfigured granted (hostCommand_resync code) unconfigured ?_)
    rw [notConfigured, hostCommand_resync code]; rfl
  · intro code
    refine congrArg _ (takeKnown_unconfigured granted (hostCommand_leave code) unconfigured ?_)
    rw [notConfigured, hostCommand_leave code]; rfl

end

/-! ### CONFIGURE -/

/-- A field of `n` bytes is below 256 to the `n`. -/
theorem fromBytes_lt (bs : List Byte) : fromBytes bs < 256 ^ bs.length := by
  induction bs with
  | nil => simp [fromBytes]
  | cons b bs ih =>
    rw [fromBytes_cons, List.length_cons, pow_succ]
    have := b.isLt
    nlinarith

theorem fieldAt_lt (bs : List Byte) (i n : Nat) : fieldAt bs i n < 256 ^ n :=
  (fromBytes_lt _).trans_le (Nat.pow_le_pow_right (by decide) (by simp))

/-- A field read into a word that holds it keeps its value. -/
theorem toNat_field (bs : List Byte) (i n : Nat) {w : Nat} (h : 256 ^ n ≤ 2 ^ w) :
    (BitVec.ofNat w (fieldAt bs i n)).toNat = fieldAt bs i n := by
  rw [BitVec.toNat_ofNat]
  exact Nat.mod_eq_of_lt ((fieldAt_lt bs i n).trans_le h)

theorem configureFields_eq_some (bs : List Byte) (c : Configuration) : configureFields bs = some c ↔
    (byteAt bs 1).toNat = c.stationId.toNat ∧ c.term.toNat = fieldAt bs 2 2 ∧
    c.warning.toNat = fieldAt bs 4 2 ∧ c.ballotLimit = byteAt bs 6 ∧
    c.formationLimit.toNat = fieldAt bs 7 2 ∧ c.orphanHold.toNat = fieldAt bs 9 2 ∧
    100 ≤ c.term.toNat ∧ c.term.toNat ≤ 60000 ∧ c.warning.toNat < c.term.toNat ∧
    2 ≤ c.ballotLimit.toNat ∧ 20 ≤ c.formationLimit.toNat ∧ c.formationLimit.toNat ≤ 5000 ∧
    c.formationLimit.toNat < c.orphanHold.toNat := by
  have term := toNat_field bs 2 2 (w := 16) (by decide)
  have warning := toNat_field bs 4 2 (w := 16) (by decide)
  have formation := toNat_field bs 7 2 (w := 16) (by decide)
  have hold := toNat_field bs 9 2 (w := 16) (by decide)
  unfold configureFields
  constructor
  · intro h
    dsimp only at h
    split at h
    · rename_i ranges
      obtain ⟨id, ⟨low, high⟩, below, ballot, ⟨least, most⟩, last⟩ := ranges
      cases h
      refine ⟨?_, term, warning, rfl, formation, hold, low, high, below, ballot, least, most, last⟩
      rw [BitVec.toNat_setWidth]
      exact (Nat.mod_eq_of_lt (lt_of_le_of_lt id (by decide))).symm
    · cases h
  · rintro ⟨id, term', warning', ballot', formation', hold', low, high, below, ballot, least, most, last⟩
    obtain ⟨cid, cterm, cwarning, cballot, cformation, chold⟩ := c
    have eterm : BitVec.ofNat 16 (fieldAt bs 2 2) = cterm := BitVec.eq_of_toNat_eq (term.trans term'.symm)
    have ewarning : BitVec.ofNat 16 (fieldAt bs 4 2) = cwarning := BitVec.eq_of_toNat_eq (warning.trans warning'.symm)
    have eformation : BitVec.ofNat 16 (fieldAt bs 7 2) = cformation := BitVec.eq_of_toNat_eq (formation.trans formation'.symm)
    have ehold : BitVec.ofNat 16 (fieldAt bs 9 2) = chold := BitVec.eq_of_toNat_eq (hold.trans hold'.symm)
    have small := cid.isLt
    have eid : (byteAt bs 1).setWidth 4 = cid := by
      apply BitVec.eq_of_toNat_eq
      rw [BitVec.toNat_setWidth, id]
      exact Nat.mod_eq_of_lt small
    dsimp only at *
    rw [eterm, ewarning, eformation, ehold, eid, ← ballot', if_pos]
    exact ⟨(id.trans_le (Nat.le_of_lt_succ small) :), ⟨low, high⟩, below, ballot, ⟨least, most⟩, last⟩

/-- Settles O21: the tests in their order, then the ranges of R151. -/
theorem configureDecides : Obligations.ConfigureDecides := by
  refine ⟨configureFields_eq_some, fun s e rest granted code => ⟨fun already => ?_, fun clear elsewhere => ?_,
    fun clear here bad => ?_, fun c clear here good => ?_⟩⟩
  · exact congrArg _ (takeCommand_completed granted (hostCommand_configure code) (if_pos already))
  · refine congrArg _ (takeCommand_completed granted (hostCommand_configure code) ?_)
    simp [configureBody, clear, elsewhere, plain, noSlot]
  · refine congrArg _ (takeCommand_completed granted (hostCommand_configure code) ?_)
    simp [configureBody, clear, here, bad, plain, noSlot]
  · refine congrArg _ ((takeCommand_body granted (hostCommand_configure code)
      (c := plain .ok) (t := acceptConfiguration c (taken rest s)) ?_).trans ?_)
    · simp [configureBody, clear, here, good]
    · simp only [placeCompletion, acceptConfiguration, markState, proposeEpoch, State.stationId, taken, withHost, completed,
        granted.stateMark, plain, noSlot, Option.isSome_none]

/-! ### CLAIM refused -/

theorem rangeAt_inverted (bs : List Byte) : (rangeAt bs 5).last < (rangeAt bs 5).first ↔ fieldAt bs 10 5 < fieldAt bs 5 5 := by
  simp only [rangeAt, BitVec.lt_def]
  rw [toNat_field _ _ _ (by decide), toNat_field _ _ _ (by decide)]

theorem claimMode_eq_none {b : Byte} (h : ¬ (b = 0x01 ∨ b = 0x02)) : claimMode b = none := by
  obtain ⟨h1, h2⟩ := not_or.1 h
  simp only [claimMode, h1, h2, if_false]

theorem claimMode_isSome {b : Byte} (h : b = 0x01 ∨ b = 0x02) : ∃ mode, claimMode b = some mode := by
  obtain rfl | rfl := h
  · exact ⟨_, rfl⟩
  · exact ⟨_, rfl⟩

/-- Settles O22: each test ends the command before the next. -/
theorem claimTests : Obligations.ClaimTests := by
  intro s e rest granted code configured tag inverted modeKnown refusedWith
  have refuse {c : CompletionCode} (run : claimBody e (taken rest s) = ({ code := c, slot := 255, tag := tag }, taken rest s)) :
      refusedWith c := congrArg _ (takeKnown_completed granted (hostCommand_claim code) configured run)
  have range := rangeAt_inverted e.bytes
  refine ⟨fun elsewhere => refuse ?_, fun active bad => refuse ?_, fun active good unknown => refuse ?_,
    fun active good known quota => refuse ?_, fun active good known quota full => refuse ?_⟩
  · exact if_pos elsewhere
  · simp [claimBody, active, claimFields, range, bad, inverted, tag, noSlot]
  · simp [claimBody, active, claimFields, range, good, claimMode_eq_none unknown, inverted, tag, noSlot]
  · obtain ⟨mode, known⟩ := claimMode_isSome known
    have quota : Config.ownQuota ≤ ownCount (taken rest s) := quota
    simp [claimBody, active, claimFields, range, good, known, quota, inverted, tag, noSlot]
  · obtain ⟨mode, known⟩ := claimMode_isSome known
    have quota : ¬ Config.ownQuota ≤ ownCount (taken rest s) := not_le.2 quota
    have full : lowestFree (taken rest s) = none := lowestFree_eq_none.2 full
    simp [claimBody, active, claimFields, range, good, known, quota, full, inverted, tag, noSlot]

end Sys2Proof.Machine
end

section
/-! PROOF. The commands that name a slot: CANCEL, RELEASE and RENEW (R20, R28, R51, R53, R54). -/

namespace Sys2Proof.Machine

section
variable {s t : State} {e : CommandEntry} {rest : List CommandEntry} {b : Byte} {i : SlotNo} {r : Record}

/-! ### The slot named -/

theorem namedSlot_none (h : ∀ i : SlotNo, i.val = b.toNat → (s.table.get i).damaged = false ∧
    ∀ r, s.record i = some r → r.kind = .shadow) : namedSlot b s = .free ∨ namedSlot b s = .shadow := by
  unfold namedSlot
  split
  · rename_i inside
    obtain ⟨sound, shadow⟩ := h ⟨b.toNat, inside⟩ rfl
    simp only [sound]
    cases held : (s.table.get ⟨b.toNat, inside⟩).content with
    | none => exact .inl rfl
    | some r => exact .inr (if_neg (by simp [shadow r held]))
  · exact .inl rfl

theorem namedSlot_eq_own (at' : i.val = b.toNat) (sound : (s.table.get i).damaged = false) (held : s.record i = some r)
    (own : r.kind = .own) : namedSlot b s = .own i r := by
  have inside : b.toNat < 64 := at' ▸ i.isLt
  have same : (⟨b.toNat, inside⟩ : SlotNo) = i := Fin.ext at'.symm
  rw [State.record] at held
  simp only [namedSlot, dif_pos inside, same, sound, held, own, if_true]

theorem namedSlot_eq_failed (at' : i.val = b.toNat) (damaged : (s.table.get i).damaged = true) :
    namedSlot b s = .failed i := by
  have inside : b.toNat < 64 := at' ▸ i.isLt
  have same : (⟨b.toNat, inside⟩ : SlotNo) = i := Fin.ext at'.symm
  simp only [namedSlot, dif_pos inside, same, damaged]

variable {act : SlotNo → Record → Completion → Completion × State}

theorem onNamedSlot_none (h : namedSlot (byteAt e.bytes 1) s = .free ∨ namedSlot (byteAt e.bytes 1) s = .shadow) :
    onNamedSlot e s act = ({ code := .badSlot, slot := byteAt e.bytes 1, tag := 0 }, s) := by
  obtain h | h := h
  · simp only [onNamedSlot, h]
  · simp only [onNamedSlot, h]

theorem onNamedSlot_own (h : namedSlot (byteAt e.bytes 1) s = .own i r) :
    onNamedSlot e s act = act i r { code := .ok, slot := byteAt e.bytes 1, tag := r.tag } := by
  simp only [onNamedSlot, h]

theorem onNamedSlot_failed (h : namedSlot (byteAt e.bytes 1) s = .failed i) :
    onNamedSlot e s act = ({ code := .notActive, slot := byteAt e.bytes 1, tag := 0 }, tableCheck i s) := by
  simp only [onNamedSlot, h]

theorem renewBody_active (active : s.ctl.state = .active) : renewBody e s = onNamedSlot e s fun i r c =>
    if r.state = .granted then
      (c, writeRecord i { r with mainTimer := some s.ctl.config.term, due := some (.announce .renew) } s)
    else ({ c with code := .wrongState }, s) := if_neg (by simp [active])

theorem renewBody_elsewhere (elsewhere : s.ctl.state ≠ .active) {tag : Word16}
    (h : (namedSlot (byteAt e.bytes 1) s = .free ∨ namedSlot (byteAt e.bytes 1) s = .shadow) ∧ tag = 0 ∨
      ∃ i r, namedSlot (byteAt e.bytes 1) s = .own i r ∧ tag = r.tag) :
    renewBody e s = ({ code := .notActive, slot := byteAt e.bytes 1, tag := tag }, s) := by
  rw [renewBody, if_pos elsewhere]
  obtain ⟨h | h, rfl⟩ | ⟨i, r, h, rfl⟩ := h
  · simp only [h]
  · simp only [h]
  · simp only [h]

/-- A check error at the named slot ends RENEW alike in every state (R28). -/
theorem renewBody_failed (h : namedSlot (byteAt e.bytes 1) s = .failed i) :
    renewBody e s = ({ code := .notActive, slot := byteAt e.bytes 1, tag := 0 }, tableCheck i s) := by
  unfold renewBody
  split
  · simp only [h]
  · exact onNamedSlot_failed h

/-! ### Refusals -/

/-- A command whose read of the named slot meets a check error: the completion stands, and the station halts or frees the
slot (R28, R29). -/
theorem placed_tableCheck (i : SlotNo) :
    (s.ctl.state ≠ .halted → ∃ t, placeCompletion e { code := .notActive, slot := b, tag := 0 } (tableCheck i (taken rest s)) = t ∧
      Halts .tableCheck s t ∧ t.host = { (completed s e rest .notActive b 0).host with commands := [] }) ∧
    (s.ctl.state = .halted → placeCompletion e { code := .notActive, slot := b, tag := 0 } (tableCheck i (taken rest s)) =
      freeSlot i (completed s e rest .notActive b 0)) := by
  refine ⟨fun live => ⟨_, rfl, ?_, ?_⟩, fun halted => ?_⟩
  · obtain ⟨halts, -⟩ := tableCheck_halts (s := taken rest s) live i
    exact ⟨halts.control, halts.upPort, halts.downPort, halts.queues, halts.scanner, halts.shadow, halts.census,
      halts.clock, halts.kept, halts.freed, halts.sound⟩
  · obtain ⟨-, host⟩ := tableCheck_halts (s := taken rest s) live i
    simp only [placeCompletion, host]
    rfl
  · rw [tableCheck, if_pos (show (taken rest s).ctl.state = .halted from halted)]
    rfl

/-- Settles O25: what the named slot holds decides before the body acts. -/
theorem namedSlotRefused : Obligations.NamedSlotRefused := by
  intro s e rest granted configured b none'
  have absent (h : none') := namedSlot_none (s := taken rest s) (b := b) h
  refine ⟨fun h code => ?_, fun h code => ?_, fun h code active => ?_, fun h code elsewhere => ?_,
    fun i r at' sound held own => ?_, fun i c code at' damaged row is => ?_⟩
  · exact congrArg _ (takeKnown_completed granted (hostCommand_cancel code) configured (onNamedSlot_none (absent h)))
  · exact congrArg _ (takeKnown_completed granted (hostCommand_release code) configured (onNamedSlot_none (absent h)))
  · exact congrArg _ (takeKnown_completed granted (hostCommand_renew code) configured
      ((renewBody_active (s := taken rest s) active).trans (onNamedSlot_none (absent h))))
  · exact congrArg _ (takeKnown_completed granted (hostCommand_renew code) configured
      (renewBody_elsewhere (s := taken rest s) elsewhere (.inl ⟨absent h, rfl⟩)))
  · have named : namedSlot b (taken rest s) = .own i r := namedSlot_eq_own at' sound held own
    refine ⟨fun code pending waiting => ?_, fun code other => ?_, fun code active other => ?_, fun code elsewhere => ?_⟩
    · exact congrArg _ (takeKnown_completed granted (hostCommand_cancel code) configured
        ((onNamedSlot_own named).trans (if_neg (by simp [pending, waiting]))))
    · exact congrArg _ (takeKnown_completed granted (hostCommand_release code) configured
        ((onNamedSlot_own named).trans (if_neg other)))
    · exact congrArg _ (takeKnown_completed granted (hostCommand_renew code) configured
        ((renewBody_active (s := taken rest s) active).trans ((onNamedSlot_own named).trans (if_neg other))))
    · exact congrArg _ (takeKnown_completed granted (hostCommand_renew code) configured
        (renewBody_elsewhere (s := taken rest s) elsewhere (.inr ⟨i, r, named, rfl⟩)))
  · have named : namedSlot b (taken rest s) = .failed i := namedSlot_eq_failed at' damaged
    have run : exec c s = .next (placeCompletion e { code := .notActive, slot := b, tag := 0 } (tableCheck i (taken rest s))) := by
      obtain ⟨rfl, rfl⟩ | ⟨rfl, rfl⟩ | ⟨rfl, rfl⟩ := row
      · exact congrArg _ (takeKnown_body granted (hostCommand_cancel is) configured (onNamedSlot_failed named))
      · exact congrArg _ (takeKnown_body granted (hostCommand_release is) configured (onNamedSlot_failed named))
      · exact congrArg _ (takeKnown_body granted (hostCommand_renew is) configured (renewBody_failed named))
    obtain ⟨live, halted⟩ := placed_tableCheck (s := s) (e := e) (rest := rest) (b := b) i
    refine ⟨fun h => ?_, fun h => run.trans (congrArg _ (halted h))⟩
    obtain ⟨t, rfl, halts, host⟩ := live h
    exact ⟨_, run, halts, host⟩

/-! ### What they do -/

/-- Settles O27. -/
theorem renewRestartsTerm : Obligations.RenewRestartsTerm := by
  intro s e rest i r granted code configured active sound at' held own leased
  have named : namedSlot (byteAt e.bytes 1) (taken rest s) = .own i r := namedSlot_eq_own at'.symm sound held own
  exact congrArg _ (takeKnown_body granted (hostCommand_renew code) configured
    ((renewBody_active (s := taken rest s) active).trans ((onNamedSlot_own named).trans (if_pos leased))))

/-- A command that retires the own record it names (R55). -/
theorem retires_named {body : CommandEntry → State → Completion × State} {which : HostCommand} {out : RecOutcome}
    {reason : ReleaseReason} (granted : Granted s e rest) (row : hostCommand (byteAt e.bytes 0) = some which)
    (configured : s.ctl.configured = true) (sound : s.undamaged) (held : s.record i = some r)
    (run : body e (taken rest s) = finishCommand { code := .ok, slot := byteAt e.bytes 1, tag := r.tag }
      { code := .ok, slot := byteAt e.bytes 1, tag := r.tag } (retireSlot i r out reason none (taken rest s))) :
    ∃ t, takeCommand (some which) (ifConfigured body) s = t ∧
      t = { completed s e rest .ok (byteAt e.bytes 1) r.tag with table := t.table } ∧ Retires i r out reason none s t := by
  obtain ⟨t, done, only, retires⟩ := retireSlot_done (s := taken rest s) sound i r out reason none
  rw [done] at run
  refine ⟨_, takeKnown_body granted row configured run, ?_, ?_, retires.others, retires.sound⟩
  · rw [only]; rfl
  · have slot := retires.slot
    rw [retiredNotice, granted.notices i r held] at slot
    exact slot

/-- Settles O26. -/
theorem cancelAndRelease : Obligations.CancelAndRelease := by
  intro s e rest i r granted configured sound at' held own done
  have named : namedSlot (byteAt e.bytes 1) (taken rest s) = .own i r := namedSlot_eq_own at'.symm (sound i) held own
  refine ⟨fun code open' => ?_, fun code leased => ?_⟩
  · obtain ⟨t, run, only, retires⟩ := retires_named (body := cancelBody) granted (hostCommand_cancel code) configured sound held
      ((onNamedSlot_own named).trans (if_pos open'))
    exact ⟨t, congrArg _ run, only, retires⟩
  · obtain ⟨t, run, only, retires⟩ := retires_named (body := releaseBody) granted (hostCommand_release code) configured sound held
      ((onNamedSlot_own named).trans (if_pos leased))
    exact ⟨t, congrArg _ run, only, retires⟩

end
end Sys2Proof.Machine
end

section
/-! PROOF. RESYNC and LEAVE (R133, R149, R155 to R157). -/

namespace Sys2Proof.Machine

section
variable {s t : State} {e : CommandEntry} {rest : List CommandEntry}

/-! ### What does not see the host port -/

/-- The table of the entry to FORMING is seen by the table alone. -/
theorem FormingTable.of_parts {s' t' : State} (h : FormingTable s t) (before : s'.table = s.table) (after : t'.table = t.table) :
    FormingTable s' t' := by
  have same (i : SlotNo) : s'.record i = s.record i := congrArg (fun x : Table => (x.get i).content) before
  have same' (i : SlotNo) : t'.record i = t.record i := congrArg (fun x : Table => (x.get i).content) after
  refine ⟨?_, ?_, ?_, ?_, ?_, ?_, fun i => by rw [after]; exact h.sound i⟩
  · simpa only [same, same'] using h.free
  · simpa only [same, same'] using h.pending
  · simpa only [same, same'] using h.claims
  · simpa only [same, same'] using h.shadows
  · simpa only [same, same'] using h.retired
  · simpa only [same, same'] using h.freed

/-- The entry to FORMING does not see the host port after it. -/
theorem Forms.hosted (h : Forms s t) (p : HostPort) : Forms s (withHost p t) :=
  ⟨h.control, h.census, h.shadow, h.table.of_parts rfl rfl, h.origination, h.scanner, h.clock, h.outstanding⟩

/-! ### RESYNC -/

theorem resyncBody_active (active : s.ctl.state = .active) :
    resyncBody e s = finishCommand (plain .ok) (plain .ok) (enterForming s) := if_neg (by simp [active])

/-- Settles O28: outside ACTIVE the body refuses; in ACTIVE it is the entry to FORMING, which the last epoch ends. -/
theorem resyncForms : Obligations.ResyncForms := by
  intro s e rest granted code configured sound
  have run {t : State} (active : s.ctl.state = .active) (done : enterForming (taken rest s) = .done t) :
      exec .resync s = .next (placeCompletion e (plain .ok) t) :=
    congrArg _ (takeKnown_body granted (hostCommand_resync code) configured
      ((resyncBody_active (s := taken rest s) active).trans (by rw [done]; rfl)))
  refine ⟨fun elsewhere => ?_, fun active room => ?_, fun active last => ?_⟩
  · exact congrArg _ (takeKnown_completed granted (hostCommand_resync code) configured (if_pos elsewhere))
  · obtain ⟨t, done, forms, host, down, -, -, link, -, scanless, scanning⟩ :=
      enterForming_forms (s := taken rest s) sound room
    refine ⟨_, run active done, ?_, ?_, down, link, scanless, scanning⟩
    · simp only [placeCompletion, host]; rfl
    · exact (forms.of_parts (s' := s) rfl rfl rfl rfl rfl rfl).hosted _
  · obtain ⟨t, done, halted, cause, epoch, host, -⟩ := enterForming_exhausted (s := taken rest s) sound last
    refine ⟨_, run active done, halted, cause, epoch.trans last, ?_⟩
    simp only [placeCompletion, host, code]
    rfl

/-! ### LEAVE -/

/-- The station as LEAVE makes it before it asks for the drain condition (R156). -/
def leftRing (s : State) : State :=
  markStateNow .leaving none
    { leavingUnits s with table := s.table.mapIdx (rewriteSlot fun _ r => some (leaveRecord r)) }

theorem leaveRing_done (sound : s.undamaged) :
    leaveRing s = if drainHolds (leftRing s) then enterDetached .clean (leftRing s) else .done (leftRing s) := by
  have pass := passOver_done (s := leavingUnits s) sound isOpenOwn (fun _ r => some (leaveRecord r))
  exact congrArg (fun x : Reading => x.andThen fun s =>
    let s := markStateNow .leaving none s
    if drainHolds s then enterDetached .clean s else .done s) pass

theorem leftRing_record (i : SlotNo) : (leftRing s).record i = (s.record i).map leaveRecord :=
  (record_mapIdx (leavingUnits s) (fun _ r => some (leaveRecord r)) i).trans (Option.map_eq_bind ..).symm

theorem undamaged_leftRing (sound : s.undamaged) : (leftRing s).undamaged :=
  undamaged_mapIdx (s := leavingUnits s) sound _

/-- LEAVE leaves a shadow and a RETIRED record. -/
theorem leaveRecord_shadow {r : Record} (h : r.kind = .shadow) : leaveRecord r = r := by
  simp [leaveRecord, h]

/-- LEAVE on one own record, the fields written out (R60). -/
theorem leaveRecord_eq (r : Record) : leaveRecord r =
    if r.kind = .own ∧ r.state = .granted then
      { r with state := .retired, outcome := some (.revoked .leave), mainTimer := none, waitLimit := none,
               waitCause := none, releaseSeen := false, due := some (.release .released),
               notice := some { notice := .revoked .leave, replaced := r.notice.isSome } }
    else if r.kind = .own ∧ (r.state = .pending ∨ r.state = .waiting) then
      { r with state := .retired, outcome := some (.failed .leave), mainTimer := none, waitLimit := none,
               waitCause := none, releaseSeen := false, due := if r.objected then some (.release .withdrawn) else none,
               notice := some { notice := .failed .leave, replaced := r.notice.isSome } }
    else r := by
  by_cases own : r.kind = .own
  · by_cases leased : r.state = .granted
    · simp [leaveRecord, own, leased, retireOwn, setNotice, dueIn, dueAllowed]
    · simp only [leaveRecord, own, leased, true_and, if_true, if_false]
      split
      · simp [own, retireOwn, setNotice, dueIn, dueAllowed, leased]
      · rfl
  · simp [leaveRecord, own]

/-- Counts are of the contents of the slots. -/
theorem count_congr_any (p : Record → Bool) (h : ∀ i, (t.record i).any p = (s.record i).any p) :
    t.table.count p = s.table.count p := by
  unfold Table.count
  congr 1
  funext i
  exact h i

theorem leftRing_ownCount : ownCount (leftRing s) = ownCount s :=
  count_congr_any _ fun i => by rw [leftRing_record]; cases s.record i <;> simp

theorem leftRing_orphanCount : orphanCount (leftRing s) = orphanCount s := by
  refine count_congr_any _ fun i => ?_
  rw [leftRing_record]
  cases held : s.record i with
  | none => rfl
  | some r =>
    cases kind : r.kind with
    | own => simp [kind, show (Kind.own == Kind.shadow) = false from rfl]
    | shadow => simp [leaveRecord_shadow kind]

theorem shadow_of_ownCount_zero (h : ownCount s = 0) {i : SlotNo} {r : Record} (held : s.record i = some r) :
    r.kind = .shadow := by
  cases kind : r.kind with
  | shadow => rfl
  | own =>
    have none' := (List.countP_eq_zero.1 h) i (List.mem_finRange i)
    have held : (s.table.get i).content = some r := held
    simp [held, kind] at none'

theorem anyDue_congr (h : ∀ i, t.record i = s.record i) : anyDue t = anyDue s := by
  have same : (fun (i : SlotNo) => (t.table.get i).holds (·.due.isSome)) = fun i => (s.table.get i).holds (·.due.isSome) :=
    funext fun i => congrArg (·.any fun r : Record => r.due.isSome) (h i)
  simp only [anyDue, Table.find, same]

/-- LEAVE itself neither makes nor unmakes the drain condition: while an own record is left it does not hold, and with none left
LEAVE changes no record (R156, R157). -/
theorem drainHolds_leftRing : drainHolds (leftRing s) = drainHolds s := by
  by_cases none' : ownCount s = 0
  · have records (i : SlotNo) : (leftRing s).record i = s.record i := by
      rw [leftRing_record]
      cases held : s.record i with
      | none => rfl
      | some r => exact congrArg some (leaveRecord_shadow (shadow_of_ownCount_zero none' held))
    simp only [drainHolds, leftRing_ownCount, anyDue_congr records]
    rfl
  · have some' : (ownCount s == 0) = false := beq_eq_false_iff_ne.2 none'
    simp only [drainHolds, leftRing_ownCount, some', Bool.false_and]

theorem ownCount_of_drainHolds (h : drainHolds s = true) : ownCount s = 0 := by
  simp only [drainHolds, Bool.and_eq_true, beq_iff_eq] at h
  exact h.1.1.1.1.1.1

/-- A station with no own record has none at all when DETACHED (R27, R94). -/
theorem Detaches.empty {out : LeaveOutcome} (h : Detaches out s t) (none' : ownCount s = 0) (i : SlotNo) : t.record i = none := by
  cases held : s.record i with
  | none => exact h.free i held
  | some r => exact h.shadows i r held (shadow_of_ownCount_zero none' held)

/-- Settles O29: the pass over the own records, then the drain condition. -/
theorem leaveRetires : Obligations.LeaveRetires := by
  intro s e rest granted code configured sound
  have run {t : State} (active : s.ctl.state = .active) (done : leaveRing (taken rest s) = .done t) :
      exec .leave s = .next (placeCompletion e (plain .ok) t) :=
    congrArg _ (takeKnown_body granted (hostCommand_leave code) configured
      ((if_neg (by simp [active])).trans (by rw [done]; rfl)))
  have left := leaveRing_done (s := taken rest s) sound
  have drain : drainHolds (leftRing (taken rest s)) = drainHolds s := drainHolds_leftRing
  refine ⟨fun elsewhere => ?_, fun active stays => ?_, fun active drained => ?_⟩
  · exact congrArg _ (takeKnown_completed granted (hostCommand_leave code) configured (if_pos elsewhere))
  · rw [drain, stays] at left
    refine ⟨_, run active left, rfl, ?_, undamaged_leftRing (s := taken rest s) sound, fun i => ?_⟩
    · have orphans : orphanCount (leftRing (taken rest s)) = orphanCount s := leftRing_orphanCount
      rw [stateMarkOf, ← orphans]
      rfl
    · refine (leftRing_record (s := taken rest s) i).trans ?_
      rw [funext leaveRecord_eq]
      rfl
  · rw [drain, drained, if_pos rfl] at left
    obtain ⟨t, done, detaches, host, -⟩ :=
      enterDetached_detaches (undamaged_leftRing (s := taken rest s) sound) .clean
    have empty : ownCount (leftRing (taken rest s)) = 0 :=
      (leftRing_ownCount (s := taken rest s)).trans (ownCount_of_drainHolds drained)
    refine ⟨_, run active (left.trans done), ?_, ?_, ?_, ?_, ?_, ?_, fun i => detaches.empty empty i⟩
    · simp only [placeCompletion, host]; rfl
    · exact congrArg Controller.state detaches.control
    · exact congrArg Controller.leaveOutcome detaches.control
    · exact congrArg Controller.bypassn detaches.control
    · exact congrArg UpstreamPort.link detaches.upPort
    · exact congrArg DownstreamPort.link detaches.downPort

end
end Sys2Proof.Machine
end

section
/-! PROOF. CLAIM taken: the stamp, the local scan, the entry and the end of the claim clock (R8, R11, R35, R36). -/

namespace Sys2Proof.Machine

section
variable {s t : State} {e : CommandEntry} {rest : List CommandEntry} {mode : Mode} {i : SlotNo}

/-! ### The local scan -/

theorem standsInTheWay_iff {stamp : Stamp} {range : Range} {r : Record} : standsInTheWay stamp range mode r = true ↔
    conflicts r.range r.mode range mode = true ∧
      ((r.kind = .own ∧ r.state = .granted) ∨
        (r.kind = .own ∧ (r.state = .pending ∨ r.state = .waiting) ∧ precedes r.identity stamp = true) ∨
        (r.kind = .shadow ∧ r.state = .orphaned)) := by
  unfold standsInTheWay
  rw [Bool.and_eq_true]
  refine and_congr Iff.rfl ?_
  cases r.kind with
  | own => cases r.state <;> simp
  | shadow => cases r.state <;> simp

theorem blocks_iff {own : SlotNo} {stamp : Stamp} {range : Range} :
    blocks s own stamp range mode ↔ obstructed s own stamp range mode := by
  simp only [blocks, obstructed, standsInTheWay_iff]

/-- The local scan reads every slot beside the claim's own, and stops at a check error (R28, R35). -/
theorem localScan_failed {own j : SlotNo} {stamp : Stamp} {range : Range} (fence : s.fenceActive = false)
    (other : j ≠ own) (held : s.record j ≠ none) (damaged : (s.table.get j).damaged = true) :
    ∃ k, localScan own stamp range mode s = .failed k := by
  cases bad : s.table.find fun i sl => i != own && sl.damaged && sl.content.isSome with
  | some k => exact ⟨k, by simp [localScan, fence, bad]⟩
  | none =>
    have content : (s.table.get j).content.isSome := Option.isSome_iff_ne_none.2 held
    simpa [other, damaged, content] using (Table.find_eq_none ..).1 bad j

/-! ### A CLAIM that has passed its tests -/

/-- The record of a CLAIM, with the next count of the claim clock (R8, R17, R36). -/
def claimRecord (s : State) (c : ClaimFields) (mode : Mode) : Record :=
  newClaim (nextStamp s) mode c.range c.tag c.noWait c.waitLimit

section
variable {c : ClaimFields}

/-- The completion of a CLAIM that has been entered (R171). -/
def enteredAs (c : ClaimFields) (i : SlotNo) : Completion := { code := .ok, slot := BitVec.ofNat 8 i.val, tag := c.tag }

/-- The completion of a CLAIM that has met a conflict (R36, R171). -/
def conflictOf (c : ClaimFields) : Completion := { code := .conflict, slot := noSlot, tag := c.tag }

theorem enterClaim_clear (scan : localScan i (nextStamp s) c.range mode (stamped s) = .clear) : enterClaim c mode i s =
    endClaim (stampClock s.clock) (enteredAs c i) (conflictOf c) (writeRecord i (claimRecord s c mode) (stamped s)) := by
  simp only [nextStamp, stamped] at scan
  simp only [enterClaim, scan]
  rfl

theorem enterClaim_blocked (scan : localScan i (nextStamp s) c.range mode (stamped s) = .blocked) (noWait : c.noWait = false) :
    enterClaim c mode i s = endClaim (stampClock s.clock) (enteredAs c i) (conflictOf c)
      (writeRecord i (enterWaiting .localScan (claimRecord s c mode)) (stamped s)) := by
  simp only [nextStamp, stamped] at scan
  simp only [enterClaim, scan]
  exact if_neg (by simp [noWait])

theorem enterClaim_conflict (scan : localScan i (nextStamp s) c.range mode (stamped s) = .blocked) (noWait : c.noWait = true) :
    enterClaim c mode i s = endClaim (stampClock s.clock) (conflictOf c) (conflictOf c) (stamped s) := by
  simp only [nextStamp, stamped] at scan
  simp only [enterClaim, scan]
  exact if_pos noWait

theorem enterClaim_failed {k : SlotNo} (scan : localScan i (nextStamp s) c.range mode (stamped s) = .failed k) :
    enterClaim c mode i s = ({ code := .notActive, slot := 255, tag := c.tag }, tableCheck k (stamped s)) := by
  simp only [nextStamp, stamped] at scan
  simp only [enterClaim, scan]
  rfl

end

/-- A CLAIM passes the tests of R34, and `i` is the lowest FREE slot. -/
structure Passes (s : State) (e : CommandEntry) (rest : List CommandEntry) (mode : Mode) (i : SlotNo) : Prop where
  granted : Granted s e rest
  code : byteAt e.bytes 0 = 0x40
  configured : s.ctl.configured = true
  active : s.ctl.state = .active
  range : fieldAt e.bytes 5 5 ≤ fieldAt e.bytes 10 5
  mode : byteAt e.bytes 4 = modeCode mode
  quota : ownCount s < 24
  free : s.record i = none
  lowest : ∀ j, j < i → s.record j ≠ none

theorem claimMode_modeCode (mode : Mode) : claimMode (modeCode mode) = some mode := by cases mode <;> rfl

theorem claimBody_passes (h : Passes s e rest mode i) :
    claimBody e (taken rest s) = enterClaim (claimFields e.bytes) mode i (taken rest s) := by
  have range : ¬ (rangeAt e.bytes 5).last < (rangeAt e.bytes 5).first := fun bad =>
    absurd ((rangeAt_inverted e.bytes).1 bad) (not_lt.2 h.range)
  have quota : ¬ Config.ownQuota ≤ ownCount (taken rest s) := not_le.2 h.quota
  have free : lowestFree (taken rest s) = some i := lowestFree_eq_some.2 ⟨h.free, h.lowest⟩
  simp [claimBody, h.active, claimFields, range, h.mode, claimMode_modeCode, quota, free]

theorem execClaim_passes (h : Passes s e rest mode i) {c : Completion}
    (run : enterClaim (claimFields e.bytes) mode i (taken rest s) = (c, t)) :
    exec .claim s = .next (placeCompletion e c t) :=
  congrArg _ (takeKnown_body h.granted (hostCommand_claim h.code) h.configured ((claimBody_passes h).trans run))

/-- The end of a CLAIM that has passed its tests on a sound table, with the count it is stamped with: the fence and the local
scan decide whether it is entered PENDING, WAITING or not at all (R35, R36). -/
theorem execClaim_scanned (h : Passes s e rest mode i) (sound : s.undamaged) {count : Word32}
    (next : stampClock s.clock = count) {r : Record} (record : r = claimed s e.bytes mode count)
    {v : State} (stamps : v = { taken rest s with clock := count }) :
    (¬ (s.fenceActive = true ∨ blocks s i r.identity r.range mode) → ∀ c t,
      endClaim count (enteredAs (claimFields e.bytes) i) (conflictOf (claimFields e.bytes)) (writeRecord i r v) = (c, t) →
      exec .claim s = .next (placeCompletion e c t)) ∧
    (s.fenceActive = true ∨ blocks s i r.identity r.range mode → r.noWait = false → ∀ c t,
      endClaim count (enteredAs (claimFields e.bytes) i) (conflictOf (claimFields e.bytes))
        (writeRecord i (enterWaiting .localScan r) v) = (c, t) →
      exec .claim s = .next (placeCompletion e c t)) ∧
    (s.fenceActive = true ∨ blocks s i r.identity r.range mode → r.noWait = true → ∀ c t,
      endClaim count (conflictOf (claimFields e.bytes)) (conflictOf (claimFields e.bytes)) v = (c, t) →
      exec .claim s = .next (placeCompletion e c t)) := by
  subst next record stamps
  have sound' : (stamped (taken rest s)).undamaged := sound
  simp only [blocks_iff]
  refine ⟨fun clear _ _ run => ?_, fun blocked wait _ _ run => ?_, fun blocked noWait _ _ run => ?_⟩
  · obtain ⟨fence, clear⟩ := not_or.1 clear
    have scan : localScan i (nextStamp (taken rest s)) (claimFields e.bytes).range mode (stamped (taken rest s)) = .clear :=
      localScan_clear sound' (Bool.eq_false_of_not_eq_true fence) clear
    exact execClaim_passes h ((enterClaim_clear scan).trans run)
  · have scan : localScan i (nextStamp (taken rest s)) (claimFields e.bytes).range mode (stamped (taken rest s)) = .blocked :=
      localScan_blocked sound' blocked
    exact execClaim_passes h ((enterClaim_blocked scan wait).trans run)
  · have scan : localScan i (nextStamp (taken rest s)) (claimFields e.bytes).range mode (stamped (taken rest s)) = .blocked :=
      localScan_blocked sound' blocked
    exact execClaim_passes h ((enterClaim_conflict scan noWait).trans run)

/-! ### Within the limit of the clock -/

theorem stampClock_below {clock : Word32} (h : clock < 0xFFFFFF00) :
    stampClock clock = clock + 1 ∧ ¬ Config.clockLimit < stampClock clock := by
  have notLast : clock ≠ Config.maxWord32 := by
    rintro rfl
    exact absurd h (by decide)
  have next : stampClock clock = clock + 1 := if_neg notLast
  refine ⟨next, ?_⟩
  rw [next, Config.clockLimit]
  bv_omega

theorem endClaim_within {count : Word32} (h : ¬ Config.clockLimit < count) (c failed : Completion) :
    endClaim count c failed s = (c, s) := if_neg h

/-- Settles O23: the local scan decides what becomes of the stamped claim. -/
theorem claimEntered : Obligations.ClaimEntered := by
  constructor
  · intro s e rest mode i granted code configured active sound range modeByte quota free lowest clock
    have passes : Passes s e rest mode i := ⟨granted, code, configured, active, range, modeByte, quota, free, lowest⟩
    obtain ⟨next, within⟩ := stampClock_below clock
    rw [next] at within
    refine ⟨fun clear => ?_, fun blocked wait => ?_, fun blocked noWait => ?_⟩
    · exact (execClaim_scanned passes sound next rfl rfl).1 clear _ _ (endClaim_within within _ _)
    · exact (execClaim_scanned passes sound next rfl rfl).2.1 blocked wait _ _ (endClaim_within within _ _)
    · exact (execClaim_scanned passes sound next rfl rfl).2.2 blocked noWait _ _ (endClaim_within within _ _)
  · intro s e rest mode i j granted code configured active range modeByte quota free lowest clock fence held damaged
    have passes : Passes s e rest mode i := ⟨granted, code, configured, active, range, modeByte, quota, free, lowest⟩
    have other : j ≠ i := by
      rintro rfl
      exact held free
    obtain ⟨k, scan⟩ := localScan_failed (s := stamped (taken rest s)) (own := i) (stamp := nextStamp (taken rest s))
      (range := (claimFields e.bytes).range) (mode := mode) fence other held damaged
    obtain ⟨next, -⟩ := stampClock_below clock
    have live : (stamped (taken rest s)).ctl.state ≠ .halted := by simp [stamped, active]
    obtain ⟨halts, host⟩ := tableCheck_halts live k
    refine ⟨_, execClaim_passes passes (enterClaim_failed scan), ?_, ?_⟩
    · rw [← next]
      exact ⟨halts.control, halts.upPort, halts.downPort, halts.queues, halts.scanner, halts.shadow, halts.census,
        halts.clock, halts.kept, halts.freed, halts.sound⟩
    · simp only [placeCompletion, host]
      rfl

/-! ### Above the limit of the clock -/

theorem stampClock_above_limit {clock : Word32} (h : 0xFFFFFF00 ≤ clock) :
    stampClock clock = (if clock = 0xFFFFFFFF then 0xFFFFFFFF else clock + 1) ∧ Config.clockLimit < stampClock clock := by
  refine ⟨rfl, ?_⟩
  unfold stampClock Config.clockLimit Config.maxWord32
  split
  · decide
  · bv_omega

theorem endClaim_forms {count : Word32} (h : Config.clockLimit < count) {c failed : Completion}
    (done : enterForming s = .done t) : endClaim count c failed s = (c, t) := by
  rw [endClaim, if_pos h, done]
  rfl

/-- The entry to FORMING at the last epoch, with what the halt keeps of it (R133, R149, R160). -/
theorem enterForming_halts (sound : s.undamaged) (last : s.census.epoch = Config.maxWord32) :
    ∃ v t, FormingTable s v ∧ v.clock = s.clock ∧ v.census.epoch = s.census.epoch ∧ v.host = s.host ∧
      enterForming s = .done t ∧ Halts .epochExhausted (markStateNow .forming none v) t ∧
      t.host = { v.host with commands := [] } := by
  obtain ⟨v, based, table, -, -, census, -, -, clock, -, -, host, -⟩ := formingBase_done sound
  have epoch : v.census.epoch = s.census.epoch := by rw [census]
  obtain ⟨halts, kept⟩ := enterHalted_halts .epochExhausted (markStateNow .forming none v)
  refine ⟨v, _, table, clock, epoch, host, ?_, halts, kept⟩
  simp only [enterForming, based, Reading.andThen, epoch, last, if_true]

/-- A slot with no RETIRED record is FREE in HALTED (R29). -/
theorem Halts.empty {cause : HaltCause} (h : Halts cause s t) (gone : ∀ r, s.record i = some r → r.state ≠ .retired) :
    t.record i = none := h.freed i fun r _ held _ retired => absurd retired (gone r held)

/-- A slot holds no record, or an own PENDING or WAITING one. -/
def AtMostClaim (u : State) (i : SlotNo) : Prop :=
  ∀ q, u.record i = some q → q.kind = .own ∧ (q.state = .pending ∨ q.state = .waiting)

theorem FormingTable.unretired (h : FormingTable s t) (claim : AtMostClaim s i) (r : Record) (held : t.record i = some r) :
    r.state ≠ .retired := by
  cases before : s.record i with
  | none => cases (h.free i before).symm.trans held
  | some q =>
    obtain ⟨own, pending | waiting⟩ := claim q before
    · cases (h.pending i q before own pending).symm.trans held
      simp
    · cases (h.claims i q before own (.inl waiting)).symm.trans held
      simp [waiting]

section
variable {u : State} {count : Word32} {c failed : Completion} (above : Config.clockLimit < count) (sound : u.undamaged)
  (run : ∀ c' t, endClaim count c failed u = (c', t) → exec .claim s = .next (placeCompletion e c' t))
include above sound run

/-- A CLAIM that ends in `u` and begins the epoch change (R11, R149). -/
theorem claim_forms (room : u.census.epoch ≠ Config.maxWord32) :
    ∃ t, exec .claim s = .next t ∧ t.host = (placeCompletion e c u).host ∧ Forms u t := by
  obtain ⟨t, done, forms, host, -⟩ := enterForming_forms sound room
  refine ⟨_, run _ _ (endClaim_forms above done), ?_, forms.hosted _⟩
  simp only [placeCompletion, host]

/-- A CLAIM that ends in `u` at the last epoch: the station halts behind the completion, and the claim is gone with it
(R11, R133, R160). -/
theorem claim_halts (last : u.census.epoch = Config.maxWord32) (claim : AtMostClaim u i) :
    ∃ t, exec .claim s = .next t ∧ t.ctl.state = .halted ∧ t.ctl.haltCause = some .epochExhausted ∧
      t.census.epoch = Config.maxWord32 ∧ t.clock = u.clock ∧ t.record i = none ∧
      t.host = { (placeCompletion e c u).host with commands := [] } := by
  obtain ⟨v, t, table, clock, epoch, host, done, halts, kept⟩ := enterForming_halts sound last
  refine ⟨_, run _ _ (endClaim_forms above done), ?_, ?_, ?_, halts.clock.trans clock,
    halts.empty (table.unretired claim), ?_⟩
  · exact congrArg Controller.state halts.control
  · exact congrArg Controller.haltCause halts.control
  · exact (congrArg CensusUnit.epoch halts.census).trans (epoch.trans last)
  · simp only [placeCompletion, kept, host]

end

/-- Settles O24: the CLAIM ends as it would otherwise, and the entry to FORMING follows. -/
theorem claimExhaustsClock : Obligations.ClaimExhaustsClock := by
  intro s e rest mode i granted code configured active sound range modeByte quota free lowest clock
    count stamped r waiting blocked entered refused
  have passes : Passes s e rest mode i := ⟨granted, code, configured, active, range, modeByte, quota, free, lowest⟩
  obtain ⟨next, above⟩ := stampClock_above_limit clock
  rw [next] at above
  let v : State := { taken rest s with clock := count }
  have soundV : v.undamaged := sound
  have soundPending : (writeRecord i r v).undamaged := undamaged_writeRecord soundV i r
  have soundWaiting : (writeRecord i waiting v).undamaged := undamaged_writeRecord soundV i waiting
  have atPending : (writeRecord i r v).record i = some r := record_writeRecord_self i r v
  have atWaiting : (writeRecord i waiting v).record i = some waiting := record_writeRecord_self i waiting v
  obtain ⟨whenClear, whenWaiting, whenRefused⟩ := execClaim_scanned (r := r) (v := v) passes sound next rfl rfl
  refine ⟨fun room => ⟨fun clear => ?_, fun held wait => ?_, fun held noWait => ?_⟩, fun last => ?_⟩
  · obtain ⟨t, run, host, forms⟩ := claim_forms above soundPending (whenClear clear) room
    exact ⟨t, run, host, forms.of_parts rfl rfl rfl rfl rfl rfl, forms.table.pending i r atPending rfl rfl, forms.clock⟩
  · obtain ⟨t, run, host, forms⟩ := claim_forms above soundWaiting (whenWaiting held wait) room
    exact ⟨t, run, host, forms.of_parts rfl rfl rfl rfl rfl rfl,
      forms.table.claims i waiting atWaiting rfl (.inl rfl), forms.clock⟩
  · obtain ⟨t, run, host, forms⟩ := claim_forms above soundV (whenRefused held noWait) room
    exact ⟨t, run, host, forms.of_parts rfl rfl rfl rfl rfl rfl, forms.table.free i free, forms.clock⟩
  · by_cases held : blocked
    · cases noWait : r.noWait with
      | false =>
        obtain ⟨t, run, halted, cause, epoch, clock, gone, host⟩ := claim_halts above soundWaiting
          (whenWaiting held noWait) last
          (fun q is => by cases is.symm.trans atWaiting; exact ⟨rfl, .inr rfl⟩)
        exact ⟨t, run, halted, cause, epoch, clock, gone, fun _ => host, fun _ no => by cases no⟩
      | true =>
        obtain ⟨t, run, halted, cause, epoch, clock, gone, host⟩ := claim_halts above soundV
          (whenRefused held noWait) last (fun q is => by cases is.symm.trans free)
        refine ⟨t, run, halted, cause, epoch, clock, gone, fun h => ?_, fun _ _ => host⟩
        obtain h | h := h
        · exact absurd held h
        · cases h
    · obtain ⟨t, run, halted, cause, epoch, clock, gone, host⟩ := claim_halts above soundPending
        (whenClear held) last
        (fun q is => by cases is.symm.trans atPending; exact ⟨rfl, .inl rfl⟩)
      exact ⟨t, run, halted, cause, epoch, clock, gone, fun _ => host, fun h => absurd h held⟩

end
end Sys2Proof.Machine
end

section
/-! PROOF. Notices drained, and the check errors that a pass over the table meets (R24, R28, R29, R148, R173, R176, R177). -/

namespace Sys2Proof.Machine

section
variable {s t u : State} {i : SlotNo} {r : Record}

/-! ### What a halt cannot tell apart -/

/-- Two states of which the entry to HALTED makes the same: they differ at most in the records that it frees, in the shadow unit
and in what the ports and queues lose (R29, R160). -/
structure Alike (s u : State) : Prop where
  control : u.ctl = s.ctl
  sent : u.up.sent = s.up.sent
  outstanding : u.fh.outstanding = s.fh.outstanding
  census : u.census = s.census
  clock : u.clock = s.clock
  host : u.host = s.host
  damaged : ∀ i, (u.table.get i).damaged = (s.table.get i).damaged
  retired : ∀ i r, r.kind = .own → r.state = .retired → (u.record i = some r ↔ s.record i = some r)

theorem Alike.refl (s : State) : Alike s s := ⟨rfl, rfl, rfl, rfl, rfl, rfl, fun _ => rfl, fun _ _ _ _ => Iff.rfl⟩

theorem Alike.trans (h : Alike s t) (h' : Alike t u) : Alike s u :=
  ⟨h'.control.trans h.control, h'.sent.trans h.sent, h'.outstanding.trans h.outstanding, h'.census.trans h.census,
    h'.clock.trans h.clock, h'.host.trans h.host, fun i => (h'.damaged i).trans (h.damaged i),
    fun i r own gone => (h'.retired i r own gone).trans (h.retired i r own gone)⟩

theorem Halts.alike {cause : HaltCause} (h : Halts cause u t) (same : Alike s u) : Halts cause s t := by
  refine ⟨same.control ▸ h.control, same.sent ▸ h.upPort, h.downPort, same.outstanding ▸ h.queues, h.scanner, h.shadow,
    same.census ▸ h.census, h.clock.trans same.clock, fun i r sound held own gone notice => ?_, fun i all => ?_, h.sound⟩
  · exact h.kept i r ((same.damaged i).trans sound) ((same.retired i r own gone).2 held) own gone notice
  · exact h.freed i fun r sound held own gone =>
      all r ((same.damaged i).symm.trans sound) ((same.retired i r own gone).1 held) own gone

/-- An event that stops at a check error halts the station, whatever it has done to the records that the halt frees
(R28, R160). -/
theorem settle_failed (live : s.ctl.state ≠ .halted) (same : Alike s u) (e : SlotNo) :
    Halts .tableCheck s (Reading.failed e u).settle ∧ (Reading.failed e u).settle.host = { s.host with commands := [] } := by
  have live' : u.ctl.state ≠ .halted := by rwa [same.control]
  obtain ⟨halts, host⟩ := tableCheck_halts live' e
  exact ⟨halts.alike same, host.trans (by rw [same.host])⟩

/-! ### Passes that stop -/

theorem passOver_stops {reads : Record → Bool} (f : SlotNo → Record → Option Record) (held : s.record i = some r)
    (damaged : (s.table.get i).damaged = true) (read : reads r = true) : ∃ e v, passOver reads f s = .failed e v := by
  cases bad : firstBad reads s.table with
  | some e => exact ⟨e, _, passOver_failed f bad⟩
  | none => exact absurd ((firstBad_eq_none _ _).1 bad i r held read) (by simp [damaged])

/-- A rewriting that leaves own RETIRED records, and makes none. -/
def SparesRetired (s : State) (f : SlotNo → Record → Record) : Prop :=
  ∀ i r, s.record i = some r → (r.kind = .own ∧ r.state = .retired) ∨ ((f i r).kind = .own ∧ (f i r).state = .retired) →
    f i r = r

theorem alike_of_partly {f : SlotNo → Record → Record} (spares : SparesRetired s f) (only : TableOnly s u)
    (damaged : ∀ i, (u.table.get i).damaged = (s.table.get i).damaged)
    (each : ∀ i, u.record i = (s.record i).map (f i) ∨ u.record i = s.record i) : Alike s u := by
  rw [TableOnly] at only
  refine ⟨by rw [only], by rw [only], by rw [only], by rw [only], by rw [only], by rw [only], damaged,
    fun i r own gone => ?_⟩
  obtain is | is := each i
  · rw [is]
    cases held : s.record i with
    | none => simp
    | some q =>
      simp only [Option.map_some, Option.some.injEq]
      constructor
      · rintro rfl
        exact (spares i q held (.inr ⟨own, gone⟩)).symm
      · rintro rfl
        exact spares i q held (.inl ⟨own, gone⟩)
  · rw [is]

theorem passOver_alike {f : SlotNo → Record → Record} (reads : Record → Bool) (spares : SparesRetired s f) :
    (passOver reads (fun i r => some (f i r)) s).Ends (Alike s) (Alike s) := by
  have some' (i : SlotNo) : (s.record i).bind (fun r => some (f i r)) = (s.record i).map (f i) := by
    cases s.record i <;> rfl
  cases bad : firstBad reads s.table with
  | none =>
    rw [passOver, bad]
    exact alike_of_partly spares rfl (fun i => by simp) fun i => .inl ((record_mapIdx ..).trans (some' i))
  | some e =>
    rw [passOver_failed _ bad]
    refine alike_of_partly spares rfl (fun i => ?_) fun i => ?_
    · simp only [Table.get_mapIdx]
      split
      · simp
      · rfl
    · simp only [State.record, Table.get_mapIdx]
      split
      · exact .inl ((rewriteSlot_content ..).trans (some' i))
      · exact .inr rfl

/-! ### Notices -/

theorem recordGranted_iff : recordGranted s = true ↔
    s.host.results.length < Config.resultDepth ∧ s.ctl.stateMark = none ∧ s.ctl.faultMark = none := by
  simp only [recordGranted, placeFree, Bool.and_eq_true, decide_eq_true_eq, Option.isNone_iff_eq_none, and_assoc]

theorem recordNoticeDrain_idle (h : recordGranted s = false) : exec .recordNoticeDrain s = .next s := by
  simp only [exec, execRecordNoticeDrain, h]

theorem recordNoticeDrain_granted (granted : recordGranted s = true) (slot : noticeSlot s = some i) :
    exec .recordNoticeDrain s = .next (drainRecord i s) := by
  simp only [exec, execRecordNoticeDrain, granted, slot]

/-- A slot just written is freed when its record is RETIRED with neither mark. -/
theorem freeIfDone_writeRecord (i : SlotNo) (q : Record) (s : State) : freeIfDone i (writeRecord i q s) =
    if q.state = .retired ∧ q.due = none ∧ q.notice = none then freeSlot i s else writeRecord i q s := by
  simp only [freeIfDone, writeRecord, freeSlot, Table.get_set_self, Slot.holds, Option.any_some, keepUnlessDone]
  split
  · have overwrite : (s.table.set i { content := some q, damaged := false }).set i Slot.free = s.table.set i Slot.free :=
      Table.ext_get fun j => by
        simp only [Table.get_set]
        split <;> rfl
    simp [overwrite]
  · simp

/-- Settles O30: the marks in the order of R173; the lowest slot with a notice mark is read before its record is placed. -/
theorem noticesDrained : Obligations.NoticesDrained := by
  refine ⟨fun s i r m place noState noFault held mark lowest => ?_, fun s m place mark => ?_,
    fun s m place noState mark => ?_, fun s full => ⟨?_, ?_⟩, fun s marked => ?_⟩
  · have granted : recordGranted s = true := recordGranted_iff.2 ⟨place, noState, noFault⟩
    have slot : noticeSlot s = some i := (noticeSlot_eq_some held).2 ⟨by simp [mark], lowest⟩
    have run := recordNoticeDrain_granted granted slot
    have content : (s.table.get i).content = some r := held
    have drained (sound : (s.table.get i).damaged = false) : drainRecord i s = freeIfDone i (writeRecord i { r with notice := none }
        { s with host := { s.host with results := s.host.results ++ [.recordNotice m.notice m.replaced i r.tag r.state
          (if r.state = .granted then r.mainTimer.getD 0 else 0)] } }) := by
      simp only [drainRecord, sound, content, mark]
      rfl
    refine ⟨fun sound gone paid => ?_, fun sound stays => ?_, fun damaged halted => ?_, fun damaged live => ?_⟩
    · rw [run, drained sound, freeIfDone_writeRecord, if_pos ⟨gone, paid, rfl⟩]
    · rw [run, drained sound, freeIfDone_writeRecord, if_neg]
      rintro ⟨gone, paid, -⟩
      obtain stays | stays := stays
      · exact stays gone
      · exact stays paid
    · rw [run, drainRecord, if_pos damaged, tableCheck, if_pos halted]
    · obtain ⟨halts, host⟩ := tableCheck_halts live i
      exact ⟨_, run.trans (by rw [drainRecord, if_pos damaged]), halts, host⟩
  · have free : placeFree s = true := decide_eq_true place
    simp only [exec, execStationNoticeDrain, free, drainStation, mark, if_true]
  · have free : placeFree s = true := decide_eq_true place
    simp only [exec, execStationNoticeDrain, free, drainStation, noState, mark, if_true]
  · have free : placeFree s = false := decide_eq_false (not_lt.2 full)
    simp [exec, execStationNoticeDrain, free]
  · refine recordNoticeDrain_idle (Bool.eq_false_of_not_eq_true fun granted => ?_)
    exact absurd (recordGranted_iff.1 granted).1 (not_lt.2 full)
  · refine recordNoticeDrain_idle (Bool.eq_false_of_not_eq_true fun granted => ?_)
    obtain ⟨-, noState, noFault⟩ := recordGranted_iff.1 granted
    simp [noState, noFault] at marked

end
end Sys2Proof.Machine
end

section
/-! PROOF. The tick (R32, R49, R79, R143, R144, R158, R162). -/

namespace Sys2Proof.Machine

section
variable {s t u : State} {i : SlotNo} {r : Record} {warning : Word16}

/-! ### One timer, one record -/

theorem countDown_toNat (w : Word16) : (countDown w).toNat = w.toNat - 1 := by
  unfold countDown
  split
  · rename_i zero
    rw [zero]
    rfl
  · rename_i running
    have : w.toNat ≠ 0 := fun zero => running (BitVec.eq_of_toNat_eq zero)
    bv_omega

/-- A timer that is not at 0 is brought to the warning level when it stands one above it (R49). -/
theorem countDown_eq_iff {left : Word16} : (left ≠ 0 ∧ countDown left = warning) ↔ left.toNat = warning.toNat + 1 := by
  have below := countDown_toNat left
  constructor
  · rintro ⟨running, rfl⟩
    have : left.toNat ≠ 0 := fun zero => running (BitVec.eq_of_toNat_eq zero)
    omega
  · intro above
    refine ⟨fun zero => ?_, BitVec.eq_of_toNat_eq (by omega)⟩
    rw [zero] at above
    exact absurd above (by simp)

/-- The tick at an own record: its timers, and the notice of the warning level (R32, R49). -/
theorem tickOwn_own (own : r.kind = .own) : tickOwn warning r = { r with
    mainTimer := r.mainTimer.map countDown, waitLimit := r.waitLimit.map countDown,
    notice := (tickOwn warning r).notice } := by
  unfold tickOwn
  rw [if_pos own]
  split
  · split <;> rfl
  · rfl

theorem tickOwn_warned (own : r.kind = .own) (leased : r.state = .granted) (level : warning ≠ 0) {left : Word16}
    (timer : r.mainTimer = some left) (above : left.toNat = warning.toNat + 1) :
    (tickOwn warning r).notice = some { notice := .termLow, replaced := r.notice.isSome } := by
  obtain ⟨running, reached⟩ := countDown_eq_iff.2 above
  simp only [tickOwn, own, timer, leased, if_true]
  rw [if_pos ⟨trivial, level, running, reached⟩]
  rfl

theorem tickOwn_quiet (own : r.kind = .own) (quiet : r.state ≠ .granted ∨ warning = 0 ∨
    ∀ left, r.mainTimer = some left → left.toNat ≠ warning.toNat + 1) : (tickOwn warning r).notice = r.notice := by
  unfold tickOwn
  rw [if_pos own]
  split
  · rename_i left timer
    rw [if_neg]
    rintro ⟨leased, level, running, reached⟩
    obtain other | none' | elsewhere := quiet
    · exact other leased
    · exact level none'
    · exact elsewhere left timer (countDown_eq_iff.1 ⟨running, reached⟩)
  · rfl

theorem tickOwn_shadow (shadow : r.kind = .shadow) : tickOwn warning r = r := if_neg (by simp [shadow])

theorem tickShadow_own (own : r.kind = .own) : tickShadow r = r := if_neg (by simp [own])

@[simp] theorem tickOwn_state (warning : Word16) (r : Record) : (tickOwn warning r).state = r.state := by
  cases kind : r.kind with
  | own => rw [tickOwn_own kind]
  | shadow => rw [tickOwn_shadow kind]

/-- A record without timers is left by the tick. -/
theorem tickOwn_untimed (main : r.mainTimer = none) (limit : r.waitLimit = none) : tickOwn warning r = r := by
  cases kind : r.kind with
  | own =>
    cases r
    cases main
    cases limit
    cases kind
    rfl
  | shadow => exact tickOwn_shadow kind

/-! ### The tick at the station -/

/-- The station with the tick counter back at 0 (R162). -/
def ticked (s : State) : State := { s with ctl := { s.ctl with tickCounter := 0 } }

theorem tickStation_inRing (ring : inRing s.ctl.state = true) :
    tickStation s = ((tickTable (ticked s)).andThen fun s => .done (tickUnits s)).settle := if_pos ring

theorem tickTable_done (sound : s.undamaged) : ∃ t, tickTable s = .done t ∧ TableOnly s t ∧
    ∀ i, t.record i = (s.record i).map fun r =>
      if shadowsCount s.ctl.state then tickShadow (tickOwn s.ctl.config.warning r) else tickOwn s.ctl.config.warning r := by
  obtain ⟨v, done, only, sound', each⟩ := pass_done sound
    (fun r => r.kind == .own && (r.mainTimer.isSome || r.waitLimit.isSome)) (fun _ r => some (tickOwn s.ctl.config.warning r))
  have same : v.ctl = s.ctl := by rw [only]
  by_cases counts : shadowsCount s.ctl.state = true
  · obtain ⟨t, done', only', -, each'⟩ := pass_done sound' (fun r => r.kind == .shadow && r.mainTimer.isSome)
      (fun _ r => some (tickShadow r))
    refine ⟨t, ?_, TableOnly.trans only only', fun i => ?_⟩
    · simp only [tickTable, done, Reading.andThen, same, counts, if_true, done']
    · rw [each', each]
      simp only [counts, if_true]
      cases s.record i <;> rfl
  · refine ⟨v, ?_, only, fun i => ?_⟩
    · simp only [tickTable, done, Reading.andThen, same, counts, Bool.false_eq_true, if_false]
    · rw [each]
      simp only [counts, Bool.false_eq_true, if_false]
      cases s.record i <;> rfl

theorem tickStation_done (ring : inRing s.ctl.state = true) (sound : s.undamaged) : ∃ t, exec .tick s = .next (tickUnits t) ∧
    t = { ticked s with table := t.table } ∧ ∀ i, t.record i = (s.record i).map fun r =>
      if shadowsCount s.ctl.state then tickShadow (tickOwn s.ctl.config.warning r) else tickOwn s.ctl.config.warning r := by
  obtain ⟨t, done, only, each⟩ := tickTable_done (s := ticked s) sound
  refine ⟨t, congrArg _ ((tickStation_inRing ring).trans ?_), only, each⟩
  rw [done]
  rfl

/-- The tick reads every running timer, own records first, and leaves what a halt keeps (R28, R32, R79). -/
theorem tickTable_fails (held : s.record i = some r) (damaged : (s.table.get i).damaged = true)
    (timed : (r.kind = .own ∧ (r.mainTimer.isSome ∨ r.waitLimit.isSome)) ∨
      (r.kind = .shadow ∧ r.mainTimer.isSome ∧ shadowsCount s.ctl.state = true))
    (untimed : ∀ j q, s.record j = some q → q.state = .retired → q.mainTimer = none ∧ q.waitLimit = none) :
    ∃ e u, tickTable s = .failed e u ∧ Alike s u := by
  have sparesOwn : SparesRetired s fun _ r => tickOwn s.ctl.config.warning r := by
    intro j q held gone
    have gone : q.state = .retired := by
      rw [tickOwn_kind, tickOwn_state, or_self] at gone
      exact gone.2
    obtain ⟨main, limit⟩ := untimed j q held gone
    exact tickOwn_untimed main limit
  have ends := passOver_alike (fun r => r.kind == .own && (r.mainTimer.isSome || r.waitLimit.isSome)) sparesOwn
  unfold tickTable
  dsimp only
  cases run : passOver (fun r => r.kind == .own && (r.mainTimer.isSome || r.waitLimit.isSome))
      (fun _ r => some (tickOwn s.ctl.config.warning r)) s with
  | failed e u =>
    rw [run] at ends
    exact ⟨e, u, rfl, ends⟩
  | done v =>
    rw [run] at ends
    have same : Alike s v := ends
    obtain ⟨own, timer⟩ | ⟨shadow, timer, counts⟩ := timed
    · obtain ⟨e, v', stops⟩ := passOver_stops (fun _ r => some (tickOwn s.ctl.config.warning r)) held damaged
        (reads := fun r => r.kind == .own && (r.mainTimer.isSome || r.waitLimit.isSome)) (by simpa [own] using timer)
      cases stops.symm.trans run
    · have rewritten := passOver_ends (fun r => r.kind == .own && (r.mainTimer.isSome || r.waitLimit.isSome))
        (fun _ r => some (tickOwn s.ctl.config.warning r)) s
      rw [run] at rewritten
      obtain ⟨-, -, each⟩ := (rewritten : Rewritten _ s v)
      have held' : v.record i = some r := by
        rw [each, held]
        exact congrArg some (tickOwn_shadow shadow)
      have sparesShadow : SparesRetired v fun _ r => tickShadow r := by
        intro j q _ gone
        rw [tickShadow_kind] at gone
        exact tickShadow_own (gone.elim And.left And.left)
      obtain ⟨e, u, stops⟩ := passOver_stops (fun _ r => some (tickShadow r)) held' ((same.damaged i).trans damaged)
        (reads := fun r => r.kind == .shadow && r.mainTimer.isSome) (by simpa [shadow] using timer)
      have ends' := passOver_alike (fun r => r.kind == .shadow && r.mainTimer.isSome) sparesShadow
      rw [stops] at ends'
      refine ⟨e, u, ?_, same.trans ends'⟩
      simp only [Reading.andThen, same.control, counts, if_true, stops]

/-- The states in which shadow timers and the fence timer count (R79). -/
theorem shadowsCount_iff {st : StationState} : shadowsCount st = true ↔ st = .active ∨ st = .leaving ∨ st = .forming := by
  simp [shadowsCount, or_assoc]

/-- Settles O31: the passes over the table, then the timers that the units hold. -/
theorem tickCountsTimers : Obligations.TickCountsTimers := by
  refine ⟨fun s sound ring => ?_, fun s out => ?_, fun s i r ring held damaged timed untimed => ?_, countDown_toNat⟩
  · obtain ⟨t, run, only, each⟩ := tickStation_done ring sound
    simp only [← shadowsCount_iff]
    refine ⟨_, run, ?_, ?_, ?_, ?_, fun i free => ?_, fun i r held shadow => ?_, fun i r held own => ?_⟩
    · rw [only]; rfl
    · rw [only]; rfl
    · rw [only]
      simp [tickUnits, ticked, formingOrIsolated]
      rfl
    · rw [only]; rfl
    · exact (each i).trans (by rw [free]; rfl)
    · refine (each i).trans ?_
      rw [held]
      simp only [Option.map_some, tickOwn_shadow shadow, tickShadow, shadow, if_true]
    · have ticks : t.record i = some (tickOwn s.ctl.config.warning r) := by
        rw [each, held]
        simp only [Option.map_some, tickShadow_own ((tickOwn_kind ..).trans own), ite_self]
      exact ⟨_, ticks, tickOwn_own own, fun leased level ⟨left, timer, above⟩ => tickOwn_warned own leased level timer above,
        tickOwn_quiet own⟩
  · exact congrArg _ (if_neg (by simp [out]))
  · have timed : (r.kind = .own ∧ (r.mainTimer.isSome ∨ r.waitLimit.isSome)) ∨
        (r.kind = .shadow ∧ r.mainTimer.isSome ∧ shadowsCount s.ctl.state = true) := by
      refine timed.imp id fun ⟨shadow, timer, elsewhere⟩ => ⟨shadow, timer, ?_⟩
      cases state : s.ctl.state <;> simp_all [inRing, shadowsCount]
    obtain ⟨e, u, stops, same⟩ := tickTable_fails (s := ticked s) held damaged timed untimed
    have live : (ticked s).ctl.state ≠ .halted := not_halted_of_inRing (s := ticked s) ring
    have run : exec .tick s = .next (Reading.failed e u).settle := congrArg _ ((tickStation_inRing ring).trans (by rw [stops]; rfl))
    obtain ⟨halts, host⟩ := settle_failed live same e
    exact ⟨_, run, halts, host⟩

end
end Sys2Proof.Machine
end

section
/-! PROOF. The expiries of the timers of the lease table and of the fence (R37, R45, R46, R48, R50, R55, R86, R91). -/

namespace Sys2Proof.Machine

section
variable {s t u : State} {i j : SlotNo} {r q : Record}

/-! ### An expiry at a slot -/

section
variable {due : Record → Bool} {act : Record → State → Reading}

theorem expireSlot_taken (held : s.record i = some r) (sound : (s.table.get i).damaged = false) (is : due r = true) :
    expireSlot i due act s = (act r s).settle := by
  have content : (s.table.get i).content = some r := held
  simp [expireSlot, content, sound, is]

theorem expireSlot_failed (held : s.record i = some r) (damaged : (s.table.get i).damaged = true) (is : due r = true) :
    expireSlot i due act s = tableCheck i s := by
  have content : (s.table.get i).content = some r := held
  simp [expireSlot, content, damaged, is]

theorem expireSlot_idle (h : ∀ r, s.record i = some r → due r = false) : expireSlot i due act s = s := by
  cases held : (s.table.get i).content with
  | none => simp [expireSlot, held]
  | some r => simp [expireSlot, held, h r held]

/-- An expiry whose slot has a check error halts the station before it acts (R28). -/
theorem expireSlot_meets {c : Instr} (run : ∀ s, exec c s = .next (expireSlot i due act s)) (live : s.ctl.state ≠ .halted)
    (held : s.record i = some r) (damaged : (s.table.get i).damaged = true) (is : due r = true) : meetsCheckError c s := by
  obtain ⟨halts, host⟩ := tableCheck_halts live i
  exact ⟨_, (run s).trans (congrArg _ (expireSlot_failed held damaged is)), halts, host⟩

end

/-! ### The wake rule -/

theorem wakeRecord_eq (hit : Range → Bool) (r : Record) : wakeRecord hit r =
    if r.kind = .own ∧ hit r.range = true then
      if r.state = .waiting then newIssue r else if r.state = .pending then { r with releaseSeen := true } else r
    else r := by
  unfold wakeRecord
  refine if_congr Iff.rfl ?_ rfl
  cases r.state <;> rfl

/-- What the wake rule makes of a slot, in the words of R46. -/
theorem wakesOver_iff {hit : Range → Bool} : WakesOver hit s t i ↔
    t.record i = (s.record i).map fun r => if dueAllowed s.ctl.state then wakeRecord hit r else r := by
  unfold WakesOver
  rw [iff_iff_eq]
  congr 2
  funext r
  rw [wakeRecord_eq]
  by_cases allowed : dueAllowed s.ctl.state = true
  · simp [allowed]
  · simp [allowed]

theorem wakeRecord_retired_iff {hit : Range → Bool} : (wakeRecord hit r).state = .retired ↔ r.state = .retired := by
  rw [wakeRecord_eq]
  split
  · split
    · rename_i waiting
      simp [newIssue, waiting]
    · split
      · rfl
      · rfl
  · rfl

theorem wakeRecord_spares (hit : Range → Bool) (s : State) : SparesRetired s fun _ r => wakeRecord hit r := by
  intro i r _ gone
  rw [wakeRecord_retired_iff] at gone
  exact wakeRecord_retired (gone.elim And.right And.right)

/-- The wake rule reads the own PENDING and WAITING records, whatever their range (R28, R46; notes/assumptions/5.md). -/
theorem wakeOver_fails (hit : Range → Bool) (allowed : dueAllowed s.ctl.state = true) (held : s.record i = some r)
    (damaged : (s.table.get i).damaged = true) (own : r.kind = .own) (open' : r.state = .pending ∨ r.state = .waiting) :
    ∃ e u, wakeOver hit s = .failed e u ∧ Alike s u := by
  obtain ⟨e, u, stops⟩ := passOver_stops (fun _ r => some (wakeRecord hit r)) held damaged (reads := isOpenClaim)
    (by simpa [isOpenClaim, own] using open')
  have ends := passOver_alike isOpenClaim (wakeRecord_spares hit s)
  rw [stops] at ends
  exact ⟨e, u, by rw [wakeOver, if_pos allowed, stops], ends⟩

/-! ### Own records -/

/-- A retirement with a notice, as an event of its own (R55). -/
theorem retires_settled {out : RecOutcome} {reason : ReleaseReason} (n : Notice) (sound : s.undamaged) :
    ∃ t, (retireSlot i r out reason (some n) s).settle = t ∧ t = { s with table := t.table } ∧
      Retires i r out reason (some { notice := n, replaced := r.notice.isSome }) s t := by
  obtain ⟨t, done, only, retires⟩ := retireSlot_done sound i r out reason (some n)
  exact ⟨t, by rw [done]; rfl, only, retires⟩

/-- A retirement that the wake rule cuts short: the station halts with the retirement standing and the damaged slot freed
(R28, R29, R55). -/
theorem retirement_cutShort {out : RecOutcome} {reason : ReleaseReason} (n : Notice) (allowed : dueAllowed s.ctl.state = true)
    (sound : (s.table.get i).damaged = false) (own : r.kind = .own) (damaged : (s.table.get j).damaged = true)
    (held : s.record j = some q) (ownQ : q.kind = .own) (open' : q.state = .pending ∨ q.state = .waiting) :
    ∃ t, (retireSlot i r out reason (some n) s).settle = t ∧ Halts .tableCheck (writeRecord i (retireOwn s.ctl.state out reason (some n) r) s) t ∧
      t.record j = none ∧ t.record i = some { retireOwn s.ctl.state out reason (some n) r with due := none } := by
  have other : i ≠ j := by
    rintro rfl
    rw [sound] at damaged
    cases damaged
  let v := writeRecord i (retireOwn s.ctl.state out reason (some n) r) s
  have held' : v.record j = some q := (record_writeRecord_ne _ _ _ _ other).trans held
  have damaged' : (v.table.get j).damaged = true := by
    rw [← damaged]
    exact congrArg Slot.damaged (Table.get_set_ne _ _ _ _ other)
  have sound' : (v.table.get i).damaged = false := by simp [v, writeRecord]
  obtain ⟨e, u, stops, same⟩ := wakeOver_fails (overlaps · r.range) (s := v) allowed held' damaged' ownQ open'
  have run : retireSlot i r out reason (some n) s = .failed e u := by
    rw [retireSlot, wake, stops]
    rfl
  obtain ⟨halts, -⟩ := settle_failed (s := v) (not_halted_of_dueAllowed allowed) same e
  rw [← run] at halts
  refine ⟨_, rfl, halts, halts.freed j fun q sound => absurd damaged' (by simp [sound]), ?_⟩
  exact halts.kept i _ sound' (record_writeRecord_self ..) ((retireOwn_kind ..).trans own) (retireOwn_state ..) rfl

/-- Settles O32: the conditions of the three expiries, and what each does at the record. -/
theorem ownTimersExpire : Obligations.OwnTimersExpire := by
  refine ⟨fun s i r sound held own pending timer first => ?_, fun s i r sound held own pending timer fourth => ?_,
    fun s i r sound held own open' limit => ?_, fun s i r sound held own leased timer => ?_,
    fun s i running => ⟨?_, ?_, ?_⟩, fun s i running => ?_,
    fun s i r live damaged held own => ⟨fun pending timer => ?_, fun open' limit => ?_, fun leased timer => ?_⟩,
    fun s i j r q allowed sound held own leased timer damaged heldQ ownQ openQ => ?_⟩
  · refine congrArg _ ((expireSlot_taken held sound (by simp [own, pending, timer])).trans ?_)
    rw [ballotLoss, if_pos first]
    simp only [Reading.settle, newIssue, pending]
  · obtain ⟨t, run, only, retires⟩ := retires_settled (i := i) (r := r) (out := .failed .ringFault) (reason := .withdrawn)
      (.failed .ringFault) sound
    refine ⟨t, congrArg _ ((expireSlot_taken held (sound i) (by simp [own, pending, timer])).trans ?_), only, retires⟩
    rw [ballotLoss, if_neg (not_lt.2 fourth), run]
  · obtain ⟨t, run, only, retires⟩ := retires_settled (i := i) (r := r) (out := .failed .timeout) (reason := .withdrawn)
      (.failed .timeout) sound
    exact ⟨t, congrArg _ ((expireSlot_taken held (sound i) (by simpa [own, limit] using open')).trans run), only, retires⟩
  · obtain ⟨t, run, only, retires⟩ := retires_settled (i := i) (r := r) (out := .expired) (reason := .expired) .expired sound
    exact ⟨t, congrArg _ ((expireSlot_taken held (sound i) (by simp [own, leased, timer])).trans run), only, retires⟩
  · exact congrArg _ (expireSlot_idle fun r held => by rw [beq_eq_false_iff_ne.2 (running r held), Bool.and_false])
  · exact congrArg _ (expireSlot_idle fun r held => by rw [beq_eq_false_iff_ne.2 (running r held), Bool.and_false])
  · exact congrArg _ (expireSlot_idle fun r held => by rw [beq_eq_false_iff_ne.2 (running r held), Bool.and_false])
  · exact congrArg _ (expireSlot_idle fun r held => by rw [beq_eq_false_iff_ne.2 (running r held), Bool.and_false])
  · exact expireSlot_meets (fun _ => rfl) live held damaged (by simp [own, pending, timer])
  · exact expireSlot_meets (fun _ => rfl) live held damaged (by simpa [own, limit] using open')
  · exact expireSlot_meets (fun _ => rfl) live held damaged (by simp [own, leased, timer])
  · obtain ⟨t, run, halts, freed, kept⟩ := retirement_cutShort (i := i) (r := r) (out := .expired) (reason := .expired) .expired
      allowed sound own damaged heldQ ownQ openQ
    refine ⟨t, congrArg _ ((expireSlot_taken held sound (by simp [own, leased, timer])).trans run), ?_, ?_, freed, kept⟩
    · rw [halts.control]
    · rw [halts.control]

/-! ### Shadows and the fence -/

theorem RetiredAt.wakes {hit : Range → Bool} (h : RetiredAt i q hit s t) (other : j ≠ i) : WakesOver hit s t j :=
  wakesOver_iff.2 (h.2.2.2 j other)

/-- On a sound table a retirement runs to its end (R25, R55, R86). -/
theorem retirement_done (sound : s.undamaged) (gone : q.state = .retired) (hit : Range → Bool) :
    ∃ t, ((wakeOver hit (writeRecord i q s)).andThen fun t => .done (freeIfDone i t)) = .done t ∧ RetiredAt i q hit s t := by
  obtain ⟨v, done, -⟩ := wakeOver_done (undamaged_writeRecord sound i q) hit
  have ends := retirement_ends i gone hit s
  rw [done] at ends ⊢
  exact ⟨_, rfl, ends⟩

/-- The station as its fence has ended (R91). -/
def fencePast (s : State) : State :=
  { s with shadow := { s.shadow with
      fence := none, fenceObjected := false
      fenceEndDue := s.shadow.fenceEndDue || (s.shadow.fenceObjected && dueAllowed s.ctl.state) } }

theorem fenceExpiry_taken (fence : s.shadow.fence = some 0) :
    exec .fenceExpiry s = .next (wake wholeSpace (fencePast s)).settle := congrArg _ (if_pos fence)

/-- Settles O33: a shadow retires as an own record does, and the fence ends before its wake rule. -/
theorem shadowAndFenceExpire : Obligations.ShadowAndFenceExpire := by
  refine ⟨fun s i r sound held shadow open' timer => ?_, fun s sound fence => ?_, fun s running => congrArg _ (if_neg running),
    fun s i r live damaged held shadow open' timer => ?_, fun s i r allowed fence damaged held own open' => ?_⟩
  · obtain ⟨t, done, retired⟩ := retirement_done (i := i) (q := retireShadow s.ctl.state .lapsed .orphanLapsed r) sound rfl
      (overlaps · r.range)
    refine ⟨t, congrArg _ ((expireSlot_taken held (sound i) (by simpa [shadow, timer] using open')).trans ?_), retired.1,
      retired.2.1.undamaged sound, fun objected allowed => ?_, fun quiet unmarked => ?_, fun j other => retired.wakes other⟩
    · simp only [lapseShadow, wake, done]
      rfl
    · rw [retired.2.2.1]
      simp [retireShadow, objected, dueIn, allowed, keepUnlessDone]
    · have nothing : (retireShadow s.ctl.state .lapsed .orphanLapsed r).due = none := by
        obtain quiet | quiet := quiet
        · simp [retireShadow, quiet]
        · simp [retireShadow, dueIn, quiet]
      rw [retired.2.2.1, keepUnlessDone, if_pos ⟨rfl, nothing, unmarked⟩]
  · obtain ⟨t, done, only, sound', wakes⟩ := wake_done (s := fencePast s) sound wholeSpace
    refine ⟨t, (fenceExpiry_taken fence).trans (by rw [done]; rfl), ?_, ?_, sound', wakes⟩
    · rw [only]
      rfl
    · rw [only]
      rfl
  · exact expireSlot_meets (fun _ => rfl) live held damaged (by simpa [shadow, timer] using open')
  · obtain ⟨e, u, stops, same⟩ := wakeOver_fails (s := fencePast s) (overlaps · wholeSpace) allowed held damaged own open'
    have unseen : Alike s (fencePast s) := ⟨rfl, rfl, rfl, rfl, rfl, rfl, fun _ => rfl, fun _ _ _ _ => Iff.rfl⟩
    obtain ⟨halts, host⟩ := settle_failed (not_halted_of_dueAllowed allowed) (unseen.trans same) e
    exact ⟨_, (fenceExpiry_taken fence).trans (by rw [wake, stops]), halts, host⟩

end
end Sys2Proof.Machine
end

section
/-! PROOF. The census timers and the end of LEAVING (R59, R94, R143 to R145, R150, R157 to R160). -/

namespace Sys2Proof.Machine

section
variable {s t u : State} {i : SlotNo} {r : Record}

/-! ### The census retry timer -/

theorem retryCensus_top {k : Key} {top : Word32} (best : s.census.bestKey = some k)
    (top' : top.toNat = max k.epoch.toNat s.census.epoch.toNat) :
    retryCensus s = if top = Config.maxWord32 then enterHalted .epochExhausted s else proposeEpoch (top + 1) s := by
  have greater : (if k.epoch < s.census.epoch then s.census.epoch else k.epoch) = top := by
    apply BitVec.eq_of_toNat_eq
    rw [top']
    split
    · rename_i below
      rw [BitVec.lt_def] at below
      omega
    · rename_i above
      rw [BitVec.lt_def] at above
      omega
  simp only [retryCensus, best, Option.map_some, Option.getD_some, greater]

theorem formingOrIsolated_iff {st : StationState} : formingOrIsolated st = true ↔ st = .forming ∨ st = .isolated := by
  simp [formingOrIsolated]

/-! ### The entry to ISOLATED -/

/-- The entry to ISOLATED on one record (R59, R94, R150). -/
def isolatedRecord (r : Record) : Option Record :=
  if r.kind = .shadow then none
  else if r.state = .granted then some { r with
    state := .retired, outcome := some (.revoked .isolation), mainTimer := none,
    waitLimit := none, waitCause := none, releaseSeen := false, due := none,
    notice := some { notice := .revoked .isolation, replaced := r.notice.isSome } }
  else if r.state = .pending ∨ r.state = .waiting then some { r with
    state := .retired, outcome := some (.failed .ringFault), mainTimer := none,
    waitLimit := none, waitCause := none, releaseSeen := false, due := none,
    notice := some { notice := .failed .ringFault, replaced := r.notice.isSome } }
  else if r.state = .retired ∧ r.notice = none then none
  else some { r with due := none }

/-- An own record that is not RETIRED, its due cleared, retires without a RELEASE and with its notice (R59). -/
theorem isolateOwn_open (own : r.kind = .own) (open' : r.state = .granted ∨ r.state = .pending ∨ r.state = .waiting) :
    some (isolateOwn { r with due := none }) = isolatedRecord r := by
  obtain state | state | state := open' <;>
    simp [isolateOwn, isolatedRecord, own, state, retireOwn, setNotice, dueIn, dueAllowed]

/-- It is then what the entry to HALTED keeps (R29). -/
theorem isolateOwn_marked (own : r.kind = .own) (open' : r.state = .granted ∨ r.state = .pending ∨ r.state = .waiting) :
    (isolateOwn { r with due := none }).state = .retired ∧ (isolateOwn { r with due := none }).notice.isSome ∧
      (isolateOwn { r with due := none }).due = none := by
  obtain state | state | state := open' <;>
    simp [isolateOwn, own, state, retireOwn, setNotice, dueIn, dueAllowed]

theorem isolatedRecord_eq (r : Record) : ((clearDue r).bind fun q => dropShadow (isolateOwn q)) = isolatedRecord r := by
  cases kind : r.kind with
  | shadow =>
    simp only [clearDue, keepUnlessDone, isolatedRecord, kind, if_true]
    split
    · rfl
    · simp [dropShadow]
  | own =>
    have kept (q : Record) (own : q.kind = .own) : dropShadow q = some q := if_neg (by simp [own])
    by_cases open' : r.state = .granted ∨ r.state = .pending ∨ r.state = .waiting
    · have stays : clearDue r = some { r with due := none } := if_neg fun ⟨gone, _⟩ => by
        rw [show r.state = .retired from gone] at open'
        simp at open'
      rw [stays, Option.bind_some, kept _ ((isolateOwn_kind { r with due := none }).trans kind), isolateOwn_open kind open']
    · obtain ⟨granted, pending, waiting⟩ : r.state ≠ .granted ∧ r.state ≠ .pending ∧ r.state ≠ .waiting := by
        simpa [not_or] using open'
      have left : isolateOwn { r with due := none } = { r with due := none } := by
        simp [isolateOwn, granted, pending, waiting]
      simp only [clearDue, keepUnlessDone, isolatedRecord, kind, granted, pending, waiting, true_and]
      split
      · simp_all
      · simp_all

theorem dropShadow_own {q : Record} (h : dropShadow r = some q) : q.kind = .own := by
  unfold dropShadow at h
  split at h
  · cases h
  · rename_i kind
    cases h
    cases own : r.kind with
    | own => rfl
    | shadow => exact absurd own kind

theorem isolatedRecord_own {q : Record} (h : isolatedRecord r = some q) : q.kind = .own := by
  rw [← isolatedRecord_eq] at h
  obtain ⟨x, -, kept⟩ := Option.bind_eq_some_iff.1 h
  exact dropShadow_own kept

theorem unsentAtIsolation_empty (h : s.fh.origination = []) : unsentAtIsolation s = [] := by
  unfold unsentAtIsolation
  split
  · split
    · simp [h]
    · exact h
  · exact h

theorem isCensusOf_best {f : Frame} (census : isCensus f = true) (best : some (censusKey f) = s.census.bestKey) :
    isCensusOf s.census.bestKey f = true := by
  unfold isCensus at census
  unfold isCensusOf
  split at census
  · rename_i body
    simp [best]
  · cases census

theorem enterIsolated_done (sound : s.undamaged) : ∃ v, enterIsolated s = .done (markStateNow .isolated none (clearShadowUnit v)) ∧
    v = { isolatedUnits s with table := v.table } ∧ v.undamaged ∧ ∀ i, v.record i = (s.record i).bind isolatedRecord := by
  obtain ⟨v, done, only, sound', each⟩ := isolateTable_done (s := isolatedUnits s) sound
  refine ⟨v, ?_, only, sound', fun i => ?_⟩
  · exact congrArg (fun x : Reading => x.andThen fun s => .done (markStateNow .isolated none (clearShadowUnit s))) done
  · rw [each, Option.bind_assoc, funext isolatedRecord_eq]
    rfl

theorem isolatedUnits_censusDue : (isolatedUnits s).census.censusDue =
    (s.census.censusDue || (unsentAtIsolation s).any (isCensusOf s.census.bestKey)) := rfl

theorem isolatedUnits_rosterDue : (isolatedUnits s).census.rosterDue =
    s.census.rosterDue.or (s.fh.origination.findSome? rosterDueOf) := rfl

/-! ### A check error in the entry to ISOLATED -/

theorem passOver_clear {reads : Record → Bool} (f : SlotNo → Record → Option Record)
    (none' : ∀ i r, s.record i = some r → reads r = true → (s.table.get i).damaged = false) :
    passOver reads f s = .done { s with table := s.table.mapIdx (rewriteSlot f) } := by
  rw [passOver, (firstBad_eq_none _ _).2 none']

theorem passOver_damaged (reads : Record → Bool) (f : SlotNo → Record → Option Record) (s : State) :
    (passOver reads f s).Ends (fun t => ∀ i, (t.table.get i).damaged = (s.table.get i).damaged)
      (fun t => ∀ i, (t.table.get i).damaged = (s.table.get i).damaged) := by
  cases bad : firstBad reads s.table with
  | none =>
    rw [passOver, bad]
    intro i
    simp
  | some e =>
    rw [passOver_failed f bad]
    intro i
    simp only [Table.get_mapIdx]
    split
    · simp
    · rfl

/-- The entry to ISOLATED reads the shadows last: a check error at one leaves the own records retired with their notices
(R28, R150). -/
theorem enterIsolated_fails {e : SlotNo} {x : Record} (held : s.record e = some x) (shadow : x.kind = .shadow)
    (dueless : x.due = none) (kept : x.state ≠ .retired) (damaged : (s.table.get e).damaged = true)
    (others : ∀ i, i ≠ e → (s.table.get i).damaged = false) :
    ∃ e' u, enterIsolated s = .failed e' u ∧ u.ctl.state = .isolated ∧ u.host = s.host ∧
      (∀ i, (u.table.get i).damaged = (s.table.get i).damaged) ∧
      ∀ i r, s.record i = some r → r.kind = .own → r.state = .granted ∨ r.state = .pending ∨ r.state = .waiting →
        u.record i = isolatedRecord r := by
  have cleared : clearDue x = some x := by
    rw [clearDue, withDue_none dueless]
    exact if_neg fun ⟨gone, _⟩ => kept gone
  let v := isolatedUnits s
  have dues := passOver_clear (s := v) (reads := holdsDue) (fun _ r => clearDue r) fun i r heldR due => by
    refine others i ?_
    rintro rfl
    cases heldR.symm.trans held
    simp [holdsDue, dueless] at due
  let v1 : State := { v with table := v.table.mapIdx (rewriteSlot fun _ r => clearDue r) }
  have record1 (i : SlotNo) : v1.record i = (s.record i).bind clearDue := record_mapIdx v ..
  have damage1 (i : SlotNo) : (v1.table.get i).damaged = (s.table.get i).damaged := by simp [v1, v, isolatedUnits, restoreCensusDues]
  have owns := passOver_clear (s := v1) (reads := isOpenOwn) (fun _ r => some (isolateOwn r)) fun i r heldR open' => by
    rw [damage1]
    refine others i ?_
    rintro rfl
    rw [record1, held, Option.bind_some, cleared] at heldR
    cases heldR
    simp [isOpenOwn, shadow] at open'
  let v2 : State := { v1 with table := v1.table.mapIdx (rewriteSlot fun _ r => some (isolateOwn r)) }
  have record2 (i : SlotNo) : v2.record i = ((s.record i).bind clearDue).map isolateOwn := by
    rw [← record1, Option.map_eq_bind]
    exact record_mapIdx v1 ..
  have damage2 (i : SlotNo) : (v2.table.get i).damaged = (s.table.get i).damaged := by
    rw [← damage1]
    simp [v2]
  have held2 : v2.record e = some (isolateOwn x) := by rw [record2, held, Option.bind_some, cleared, Option.map_some]
  obtain ⟨e', u, stops⟩ := passOver_stops (reads := (·.kind == .shadow)) (fun _ r => dropShadow r) held2
    ((damage2 e).trans damaged) (by simp [shadow])
  have ends := passOver_ends (·.kind == .shadow) (fun _ r => dropShadow r) v2
  have damage := passOver_damaged (·.kind == .shadow) (fun _ r => dropShadow r) v2
  rw [stops] at ends damage
  obtain ⟨only, -, each⟩ := (ends : PartlyRewritten _ v2 u)
  refine ⟨e', u, ?_, ?_, ?_, fun i => (damage i).trans (damage2 i), fun i r heldR own open' => ?_⟩
  · have table : isolateTable v = .failed e' u := by
      rw [isolateTable, dues, Reading.andThen, owns, Reading.andThen, stops]
    exact congrArg (fun x : Reading => x.andThen fun s => .done (markStateNow .isolated none (clearShadowUnit s))) table
  · rw [TableOnly] at only
    rw [only]
    rfl
  · rw [TableOnly] at only
    rw [only]
    rfl
  · have stays : clearDue r = some { r with due := none } := if_neg fun ⟨gone, _⟩ => by
      rw [show r.state = .retired from gone] at open'
      simp at open'
    have atR : v2.record i = isolatedRecord r := by
      rw [record2, heldR, Option.bind_some, stays, Option.map_some, isolateOwn_open own open']
    obtain is | is := each i
    · rw [is, atR, ← isolateOwn_open own open', Option.bind_some]
      exact if_neg (by rw [isolateOwn_kind]; simp [own])
    · exact is.trans atR

/-- Settles O34: the retry timer proposes, the formation timer's expiry is the entry to ISOLATED. -/
theorem censusTimersExpire : Obligations.CensusTimersExpire := by
  refine ⟨fun s k top timer working best top' => ⟨fun room => ?_, fun last => ?_⟩, fun s sound timer forming => ?_,
    fun s e x timer forming damaged held shadow kept dueless others => ?_⟩
  · have taken : exec .censusRetryExpiry s = .next (retryCensus s) := congrArg _ (if_pos ⟨timer, formingOrIsolated_iff.2 working⟩)
    rw [taken, retryCensus_top best top', if_neg room]
    rfl
  · have taken : exec .censusRetryExpiry s = .next (retryCensus s) := congrArg _ (if_pos ⟨timer, formingOrIsolated_iff.2 working⟩)
    obtain ⟨halts, host⟩ := enterHalted_halts .epochExhausted s
    exact ⟨_, taken.trans (by rw [retryCensus_top best top', if_pos last]), halts, host⟩
  · obtain ⟨v, done, only, sound', each⟩ := enterIsolated_done sound
    have run : exec .formationTimerExpiry s = .next (markStateNow .isolated none (clearShadowUnit v)) :=
      congrArg _ ((if_pos ⟨timer, forming⟩).trans (by rw [done]; rfl))
    have orphans : orphanCount (clearShadowUnit v) = 0 := orphanCount_eq_zero fun i q held => by
      obtain ⟨r, -, is⟩ := Option.bind_eq_some_iff.1 ((each i).symm.trans held)
      exact isolatedRecord_own is
    refine ⟨_, run, ?_, ?_, rfl, ?_, ?_, fun due => ?_, fun idle ⟨f, queued, census, key⟩ => ?_, fun due => ?_, fun empty => ?_,
      sound', each⟩
    · rw [only]; rfl
    · rw [stateMarkOf, ← orphans, only]; rfl
    · rw [only]; rfl
    · rw [only]; rfl
    · rw [only]
      exact isolatedUnits_censusDue.trans (by rw [due, Bool.true_or])
    · have found : (unsentAtIsolation s).any (isCensusOf s.census.bestKey) = true := by
        rw [unsentAtIsolation, idle]
        exact List.any_eq_true.2 ⟨f, queued, isCensusOf_best census key⟩
      rw [only]
      exact isolatedUnits_censusDue.trans (by rw [found, Bool.or_true])
    · obtain ⟨d, due⟩ := Option.isSome_iff_exists.1 due
      rw [only]
      exact isolatedUnits_rosterDue.trans (by rw [due, Option.some_or])
    · rw [only]
      exact ⟨isolatedUnits_censusDue.trans (by rw [unsentAtIsolation_empty empty, List.any_nil, Bool.or_false]),
        isolatedUnits_rosterDue.trans (by rw [empty, List.findSome?_nil, Option.or_none])⟩
  · obtain ⟨e', u, stops, isolated, host, damage, each⟩ := enterIsolated_fails held shadow dueless kept damaged others
    obtain ⟨halts, emptied⟩ := tableCheck_halts (s := u) (by simp [isolated]) e'
    have run : exec .formationTimerExpiry s = .next (tableCheck e' u) :=
      congrArg _ ((if_pos ⟨timer, forming⟩).trans (by rw [stops]; rfl))
    have stays {i : SlotNo} {r : Record} (heldR : s.record i = some r) (own : r.kind = .own)
        (open' : r.state = .granted ∨ r.state = .pending ∨ r.state = .waiting) : (tableCheck e' u).record i = isolatedRecord r := by
      have other : i ≠ e := by
        rintro rfl
        cases heldR.symm.trans held
        cases own.symm.trans shadow
      have soundR : (u.table.get i).damaged = false := (damage i).trans (others i other)
      have heldU := each i r heldR own open'
      rw [← isolateOwn_open own open'] at heldU ⊢
      obtain ⟨gone, marked, paid⟩ := isolateOwn_marked own open'
      rw [halts.kept i _ soundR heldU ((isolateOwn_kind _).trans own) gone marked, withDue_none paid]
    refine ⟨_, run, ?_, ?_, ?_, halts.freed e fun r sound => ?_, fun i r heldR own => ⟨fun leased => ?_, fun open' => ?_⟩⟩
    · rw [halts.control]
    · rw [halts.control]
    · rw [emptied, host]
    · exact absurd sound (by simp [damage, damaged])
    · rw [stays heldR own (.inl leased)]
      simp [isolatedRecord, own, leased]
    · have notLeased : r.state ≠ .granted := by
        rintro leased
        simp [leased] at open'
      rw [stays heldR own (.inr open')]
      simp [isolatedRecord, own, notLeased, open']

/-! ### The end of LEAVING -/

theorem drainHolds_iff : drainHolds s = true ↔ (∀ i r, s.record i = some r → r.kind = .shadow ∧ r.due = none) ∧
    s.census.censusDue = false ∧ s.census.rosterDue = none ∧ s.shadow.fenceEndDue = false ∧ s.fh.origination = [] ∧
    s.fh.outstanding = 0 := by
  have owns : ownCount s = 0 ↔ ∀ i r, s.record i = some r → r.kind = .shadow := by
    refine ⟨fun none' i r held => shadow_of_ownCount_zero none' held, fun shadows => ?_⟩
    refine List.countP_eq_zero.2 fun i _ => ?_
    cases held : (s.table.get i).content with
    | none => simp
    | some r => simp [shadows i r held]
  have dues : anyDue s = false ↔ ∀ i r, s.record i = some r → r.due = none := by
    rw [anyDue, Option.isSome_eq_false_iff, Option.isNone_iff_eq_none, Table.find_eq_none]
    refine forall_congr' fun i => ?_
    rw [State.record, Slot.holds]
    cases (s.table.get i).content <;> simp
  simp only [drainHolds, Bool.and_eq_true, beq_iff_eq, Bool.not_eq_true', Option.isNone_iff_eq_none, List.isEmpty_iff,
    owns, dues]
  constructor
  · rintro ⟨⟨⟨⟨⟨⟨shadows, paid⟩, census⟩, roster⟩, fence⟩, queue⟩, out⟩
    exact ⟨fun i r held => ⟨shadows i r held, paid i r held⟩, census, roster, fence, queue, out⟩
  · rintro ⟨each, census, roster, fence, queue, out⟩
    exact ⟨⟨⟨⟨⟨⟨fun i r held => (each i r held).1, fun i r held => (each i r held).2⟩, census⟩, roster⟩, fence⟩, queue⟩, out⟩

theorem drainCompletion_idle (h : ¬ drainHolds s = true) : exec .drainCompletion s = .next s :=
  congrArg _ (if_neg fun ⟨_, drained⟩ => h drained)

/-- Settles O35: both events enter DETACHED, each on its own condition. -/
theorem leavingEnds : Obligations.LeavingEnds := by
  refine ⟨fun s sound leaving timer => ?_, fun s sound leaving each census roster fence queue out => ?_,
    fun s elsewhere => ⟨?_, ?_⟩, fun s running => ?_, fun s i r held owes => ?_, fun s busy => ?_⟩
  · obtain ⟨t, done, detaches, host, -⟩ := enterDetached_detaches sound .timedOut
    exact ⟨t, congrArg _ ((if_pos ⟨timer, leaving⟩).trans (by rw [done]; rfl)), detaches, host⟩
  · obtain ⟨t, done, detaches, host, -⟩ := enterDetached_detaches sound .clean
    have drained : drainHolds s = true := drainHolds_iff.2 ⟨each, census, roster, fence, queue, out⟩
    exact ⟨t, congrArg _ ((if_pos ⟨leaving, drained⟩).trans (by rw [done]; rfl)), detaches, host⟩
  · exact congrArg _ (if_neg fun ⟨_, leaving⟩ => elsewhere leaving)
  · exact congrArg _ (if_neg fun ⟨leaving, _⟩ => elsewhere leaving)
  · exact congrArg _ (if_neg fun ⟨timer, _⟩ => running timer)
  · refine drainCompletion_idle fun drained => ?_
    obtain ⟨shadow, paid⟩ := (drainHolds_iff.1 drained).1 i r held
    obtain own | owes := owes
    · cases own.symm.trans shadow
    · simp [paid] at owes
  · refine drainCompletion_idle fun drained => ?_
    obtain ⟨-, -, -, fence, queue, out⟩ := drainHolds_iff.1 drained
    simp [fence, queue, out] at busy

end
end Sys2Proof.Machine
end

section
/-! PROOF. The ports: frames that arrive, locks, symbols, and the departures from UP (R95, R97, R99 to R109, R121). -/

namespace Sys2Proof.Machine

section
variable {s t v : State} {u : UpstreamPort} {d : DownstreamPort}

/-! ### Locks after a departure from UP -/

/-- The departure of a port from UP leaves no lock that was not there before (R98, R101, R109). -/
structure NoNewLocks (s t : State) : Prop where
  upReceive : s.up.receiveLock = false → t.up.receiveLock = false
  upFar : s.up.farLock = false → t.up.farLock = false
  downReceive : s.down.receiveLock = false → t.down.receiveLock = false
  downFar : s.down.farLock = false → t.down.farLock = false

theorem NoNewLocks.of_ports (up : t.up = s.up) (down : t.down = s.down) : NoNewLocks s t := by
  constructor <;> simp [up, down]

theorem NoNewLocks.of_off {n : List ReturnSymbol} {m : List ForwardItem} (up : t.up = { State.reset.up with sent := n })
    (down : t.down = { State.reset.down with sent := m }) : NoNewLocks s t := by
  constructor <;> simp [up, down, State.reset, State.afterReset]

theorem stationAfterPortLoss_locks (sound : v.undamaged) (scan : v.scan = none) :
    NoNewLocks v (stationAfterPortLoss v).settle := by
  unfold stationAfterPortLoss
  split
  · by_cases last : v.census.epoch = Config.maxWord32
    · obtain ⟨w, t, -, -, -, -, done, halts, -⟩ := enterForming_halts sound last
      rw [done]
      exact .of_off halts.upPort halts.downPort
    · obtain ⟨t, done, -, -, down, -, -, -, -, scanless, -⟩ := enterForming_forms sound last
      rw [done]
      exact .of_ports (scanless scan).1 down
  · obtain ⟨t, done, detaches, -⟩ := enterDetached_detaches sound .interrupted
    rw [done]
    exact .of_off detaches.upPort detaches.downPort
  · exact .of_ports rfl rfl

theorem NoNewLocks.trans (h : NoNewLocks s t) (h' : NoNewLocks t v) : NoNewLocks s v :=
  ⟨h'.upReceive ∘ h.upReceive, h'.upFar ∘ h.upFar, h'.downReceive ∘ h.downReceive, h'.downFar ∘ h.downFar⟩

theorem flushTransit_locks (s : State) : NoNewLocks s (flushTransit s) := ⟨id, id, id, id⟩

theorem upstreamLeftUp_locks (sound : s.undamaged) : NoNewLocks s (upstreamLeftUp s) := by
  have flush := flushTransit_locks s
  unfold upstreamLeftUp
  dsimp only
  split
  · have rebased : NoNewLocks (flushTransit s) { flushTransit s with
        down := { (flushTransit s).down with link := .creditWait, credit := 0 } } := ⟨id, id, id, id⟩
    have rest := rebased.trans (stationAfterPortLoss_locks (v := { flushTransit s with
      down := { (flushTransit s).down with link := .creditWait, credit := 0 } }) sound rfl)
    split
    · exact (flush.trans rest).trans ⟨id, id, id, id⟩
    · exact flush.trans rest
  · exact flush.trans (stationAfterPortLoss_locks (v := flushTransit s) sound rfl)

theorem downstreamLeftUp_locks (sound : s.undamaged) : NoNewLocks s (downstreamLeftUp s) :=
  (flushTransit_locks s).trans (stationAfterPortLoss_locks (v := flushTransit s) sound rfl)

/-! ### Departures from UP -/

/-- The station with another upstream port. -/
def withUp (u : UpstreamPort) (s : State) : State := { s with up := u }

/-- An upstream port in TRAINING that owes no advertisement (R101). -/
def retrained (u : UpstreamPort) : UpstreamPort := { u with link := .training, advertisementOwed := false }

/-- A downstream port in TRAINING with its send cut off (R95, R101). -/
def cutPort (d : DownstreamPort) (s : State) : DownstreamPort :=
  { d with
    link := .training, credit := 0
    sent := d.sent ++ (s.fh.inSend.map fun x => .cutOff x.bytes).toList }

theorem retrained_lost (sound : s.undamaged) (ring : inRing s.ctl.state = true) (u : UpstreamPort) (sent : u.sent = s.up.sent) :
    UpstreamLost s (upstreamLeftUp (withUp (retrained u) s)) :=
  (upstreamLeftUp_lost sound ring (retrained u) rfl rfl sent).1

theorem cutPort_lost (sound : s.undamaged) (ring : inRing s.ctl.state = true) (d : DownstreamPort) (sent : d.sent = s.down.sent) :
    DownstreamLost s (downstreamLeftUp (cutDown (cutPort d s) s)) :=
  (downstreamLeftUp_lost sound ring (cutPort d s) rfl rfl (by rw [← sent]; rfl)).1

theorem unlockUpstream_up (up : s.up.link = .up) : unlockUpstream s =
    upstreamLeftUp (withUp (retrained { s.up with receiveLock := false, farLock := false }) s) := by
  simp only [unlockUpstream, up]
  rfl

theorem clearFarUpstream_up (up : s.up.link = .up) (locked : s.up.receiveLock = true) : clearFarUpstream s =
    upstreamLeftUp (withUp (retrained { s.up with farLock := false }) s) := by
  simp only [clearFarUpstream, up, locked, if_true]
  rfl

theorem unlockDownstream_up (up : s.down.link = .up) : unlockDownstream s =
    downstreamLeftUp (cutDown (cutPort { s.down with receiveLock := false, farLock := false } s) s) := by
  simp only [unlockDownstream, up]
  rfl

theorem clearFarDownstream_up (up : s.down.link = .up) (locked : s.down.receiveLock = true) : clearFarDownstream s =
    downstreamLeftUp (cutDown (cutPort { s.down with farLock := false } s) s) := by
  simp only [clearFarDownstream, up, locked, if_true]
  rfl

section
variable {cause : LockLoss}

theorem receiveLockLost_upstream (unlock : unlocks .upstream cause = true) :
    exec (.receiveLockLost .upstream cause) s = .next (unlockUpstream s) := by
  simp only [exec, execReceiveLockLost, unlock, if_true]

theorem receiveLockLost_downstream (unlock : unlocks .downstream cause = true) :
    exec (.receiveLockLost .downstream cause) s = .next (unlockDownstream s) := by
  simp only [exec, execReceiveLockLost, unlock, if_true]

end

theorem farLockClear_upstream : exec (.farLockClear .upstream) s = .next (clearFarUpstream s) := rfl
theorem farLockClear_downstream : exec (.farLockClear .downstream) s = .next (clearFarDownstream s) := rfl

/-- Settles O38: both losses at a port are one departure from UP. -/
theorem portsLeaveUp : Obligations.PortsLeaveUp := by
  refine ⟨fun s cause sound ring up unlock => ?_, fun s sound ring up locked => ?_,
    fun s cause sound ring up unlock => ?_, fun s sound ring up locked => ?_⟩
  · rw [receiveLockLost_upstream unlock, unlockUpstream_up up]
    have locks := upstreamLeftUp_locks
      (s := withUp (retrained { s.up with receiveLock := false, farLock := false }) s) sound
    exact ⟨_, rfl, retrained_lost sound ring _ rfl, locks.upReceive rfl,
      locks.upFar rfl⟩
  · rw [farLockClear_upstream, clearFarUpstream_up up locked]
    have locks := upstreamLeftUp_locks (s := withUp (retrained { s.up with farLock := false }) s) sound
    exact ⟨_, rfl, retrained_lost sound ring _ rfl, locks.upFar rfl⟩
  · rw [receiveLockLost_downstream unlock, unlockDownstream_up up]
    have locks := downstreamLeftUp_locks
      (s := cutDown (cutPort { s.down with receiveLock := false, farLock := false } s) s) sound
    exact ⟨_, rfl, cutPort_lost sound ring _ rfl, locks.downReceive rfl,
      locks.downFar rfl⟩
  · rw [farLockClear_downstream, clearFarDownstream_up up locked]
    have locks := downstreamLeftUp_locks (s := cutDown (cutPort { s.down with farLock := false } s) s) sound
    exact ⟨_, rfl, cutPort_lost sound ring _ rfl, locks.downFar rfl⟩

/-! ### Frames that arrive -/

theorem seeNormalUp_reads (reads : readsSymbols s.up.link = true) : seeNormalUp s = { s with up := { s.up with farLock := true } } := by
  simp only [seeNormalUp, reads, Bool.or_true]

theorem seeNormalUp_deaf (deaf : readsSymbols s.up.link = false) : seeNormalUp s = s := by
  simp only [seeNormalUp, deaf, Bool.or_false]

theorem seeNormalDown_reads (reads : readsSymbols s.down.link = true) :
    seeNormalDown s = { s with down := { s.down with farLock := true } } := by
  simp only [seeNormalDown, reads, Bool.or_true]

theorem seeNormalDown_deaf (deaf : readsSymbols s.down.link = false) : seeNormalDown s = s := by
  simp only [seeNormalDown, deaf, Bool.or_false]

/-- Where the station state does not move with its ports, a departure of the upstream port from UP is the port's alone
(R105, R109). -/
theorem upstreamLeftUp_alone (still : s.ctl.state ≠ .active ∧ s.ctl.state ≠ .leaving) : upstreamLeftUp (withUp u s) = lostUp u s := by
  have stays (v : State) (same : v.ctl = s.ctl) : (stationAfterPortLoss v).settle = v := by
    unfold stationAfterPortLoss
    rw [same]
    obtain ⟨notActive, notLeaving⟩ := still
    split
    · exact absurd ‹_› notActive
    · exact absurd ‹_› notLeaving
    · rfl
  by_cases rebase : s.down.link = .up
  · have after := stays { flushTransit (withUp u s) with down := { s.down with link := .creditWait, credit := 0 } } rfl
    rw [lostUp, if_pos rebase]
    exact (if_pos rebase).trans ((congrArg (fun w => if w.down.link = .creditWait then sendRebase w else w) after).trans (if_pos rfl))
  · rw [lostUp, if_neg rebase]
    exact (if_neg rebase).trans (stays (flushTransit (withUp u s)) rfl)

theorem lostUp_lost (still : s.ctl.state ≠ .active ∧ s.ctl.state ≠ .leaving) (link : u.link = .training)
    (owed : u.advertisementOwed = false) (sent : u.sent = s.up.sent) : UpstreamLost s (lostUp u s) := by
  have flushed : flushTransit (withUp u s) = { s with
      up := u
      fh := { s.fh with transit := [], inSend := s.fh.inSend.map (leaveQueue .transit), arbiterPos := 0 }
      scan := none } := by
    obtain ⟨l, r, f, b, o, n⟩ := u
    cases link
    simp [flushTransit, returnTokens, withUp]
  have same : lostUp u s = if s.down.link = .up
      then sendRebase { flushTransit (withUp u s) with down := { s.down with link := .creditWait, credit := 0 } }
      else flushTransit (withUp u s) := rfl
  rw [same, flushed]
  by_cases rebase : s.down.link = .up
  · rw [if_pos rebase]
    refine ⟨⟨rfl, rfl, rfl⟩, fun active => absurd active still.1, fun leaving => absurd leaving still.2,
      fun _ => ⟨rfl, rfl, rfl, rfl, rfl, rfl⟩, fun _ _ => ⟨link, owed, sent⟩, fun _ _ _ => ⟨?_, ?_⟩,
      fun _ _ elsewhere => absurd rebase elsewhere, .inl rfl⟩
    · simp [sendRebase]
    · simp [sendRebase, Option.map_map, Function.comp_def]
  · rw [if_neg rebase]
    exact ⟨⟨rfl, rfl, rfl⟩, fun active => absurd active still.1, fun leaving => absurd leaving still.2,
      fun _ => ⟨rfl, rfl, rfl, rfl, rfl, rfl⟩, fun _ _ => ⟨link, owed, sent⟩, fun _ _ up => absurd up rebase,
      fun _ _ _ => rfl, .inl rfl⟩

/-- The upstream port's departure from UP, in every station state (R105, R109). -/
theorem retrained_left (sound : s.undamaged) (u : UpstreamPort) (sent : u.sent = s.up.sent) :
    UpstreamLost s (upstreamLeftUp (withUp (retrained u) s)) := by
  by_cases ring : inRing s.ctl.state = true
  · exact retrained_lost sound ring u sent
  · have still : s.ctl.state ≠ .active ∧ s.ctl.state ≠ .leaving :=
      ⟨fun active => ring (by rw [active]; rfl), fun leaving => ring (by rw [leaving]; rfl)⟩
    rw [upstreamLeftUp_alone still]
    exact lostUp_lost still rfl rfl sent

section
variable {bytes : List Byte} (up : s.up.link = .up) (room : s.fh.transit.length < Config.transitDepth)
include up room

theorem arrive_good {f : Frame} (good : checkFrame bytes = some f) :
    arrive bytes s = goodFrame f (withUp { s.up with farLock := true } s) := by
  rw [← show seeNormalUp s = withUp { s.up with farLock := true } s from seeNormalUp_reads (by rw [up]; rfl)]
  simp only [arrive, up, room, if_true, good]

theorem arrive_bad (bad : checkFrame bytes = none) : arrive bytes s = badFrame (withUp { s.up with farLock := true } s) := by
  rw [← show seeNormalUp s = withUp { s.up with farLock := true } s from seeNormalUp_reads (by rw [up]; rfl)]
  simp only [arrive, up, room, if_true, bad]

end

/-- Settles O36: what becomes of a frame in UP; below UP and at a full queue it is discarded. -/
theorem frameArrivals : Obligations.FrameArrivals := by
  intro s bytes
  refine ⟨fun f up room good => ?_, fun up room bad run => ?_, fun sound up room bad run => ?_, fun elsewhere => ?_,
    fun waiting => ?_⟩
  · exact congrArg _ (arrive_good up room good)
  · have below : (withUp { s.up with farLock := true } s).up.badRun + 1 < Config.badFrameLimit := Nat.add_lt_add_right run 1
    refine congrArg _ ((arrive_bad up room bad).trans ((if_pos below).trans ?_))
    simp only [returnTokens, withUp, up, if_true]
    rfl
  · have limit : ¬ (withUp { s.up with farLock := true } s).up.badRun + 1 < Config.badFrameLimit :=
      not_lt.2 (Nat.add_le_add_right run 1)
    have left : arrive bytes s =
        upstreamLeftUp (withUp (retrained { s.up with farLock := true, badRun := Config.badFrameLimit }) s) := by
      rw [arrive_bad up room bad]
      exact if_neg limit
    refine ⟨_, congrArg Host.Outcome.next left,
      retrained_left sound { s.up with farLock := true, badRun := Config.badFrameLimit } rfl, fun ring notLeaving room' => ?_⟩
    have same := (upstreamLeftUp_lost sound ring (retrained { s.up with farLock := true, badRun := Config.badFrameLimit })
      rfl rfl rfl).2.2 notLeaving room'
    have run' := congrArg UpstreamPort.badRun same
    have lock := congrArg UpstreamPort.receiveLock same
    exact ⟨run', lock⟩
  · obtain off | training | ⟨up, full⟩ := elsewhere
    · simp only [exec, execFrameArrival, arrive, off]
    · simp only [exec, execFrameArrival, arrive, training]
    · have full : ¬ s.fh.transit.length < Config.transitDepth := not_lt.2 full
      simp only [exec, execFrameArrival, arrive, up, full, if_false]
  · refine congrArg Host.Outcome.next (Eq.trans ?_ (seeNormalUp_reads (by rw [waiting]; rfl)))
    simp only [arrive, waiting]

/-! ### Locks below UP, and symbols -/

theorem receiveLockGained_upstream {groups : List LaneGroup} (aligned : givesAlignment groups = true) :
    exec (.receiveLockGained .upstream groups) s = .next (lockUpstream s) := by
  simp only [exec, execReceiveLockGained, aligned, if_true]

theorem receiveLockGained_downstream {groups : List LaneGroup} (aligned : givesAlignment groups = true) :
    exec (.receiveLockGained .downstream groups) s = .next (lockDownstream s) := by
  simp only [exec, execReceiveLockGained, aligned, if_true]

section
variable {port : Port} {groups : List LaneGroup} {cause : LockLoss} {inFrame : Bool} {g : LaneGroup}

/-- An upstream port in OFF takes no event (R95, R98). -/
theorem upstream_off (off : s.up.link = .off) : exec (.receiveLockGained .upstream groups) s = .next s ∧
    exec (.receiveLockLost .upstream cause) s = .next s ∧ exec (.farLockSet .upstream inFrame g) s = .next s ∧
    exec (.farLockClear .upstream) s = .next s ∧ exec .rebase s = .next s ∧ exec .advertiseSend s = .next s := by
  have deaf : readsSymbols s.up.link = false := by rw [off]; rfl
  refine ⟨?_, ?_, ?_, ?_, ?_, ?_⟩
  · simp [exec, execReceiveLockGained, lockUpstream, off]
  · simp [exec, execReceiveLockLost, unlockUpstream, off]
  · simp [exec, execFarLockSet, off]
  · simp [farLockClear_upstream, clearFarUpstream, off]
  · simp [exec, execRebase, seeNormalUp_deaf deaf, off]
  · simp [exec, execAdvertiseSend, deaf]

/-- A downstream port in OFF takes no event (R95, R98). -/
theorem downstream_off (off : s.down.link = .off) : exec (.receiveLockGained .downstream groups) s = .next s ∧
    exec (.receiveLockLost .downstream cause) s = .next s ∧ exec (.farLockSet .downstream inFrame g) s = .next s ∧
    exec (.farLockClear .downstream) s = .next s ∧ exec .token s = .next s ∧ exec .advertise s = .next s := by
  have deaf : readsSymbols s.down.link = false := by rw [off]; rfl
  refine ⟨?_, ?_, ?_, ?_, ?_, ?_⟩
  · simp [exec, execReceiveLockGained, lockDownstream, off]
  · simp [exec, execReceiveLockLost, unlockDownstream, off]
  · simp [exec, execFarLockSet, off]
  · simp [farLockClear_downstream, clearFarDownstream, off]
  · simp [exec, execToken, seeNormalDown_deaf deaf, off]
  · simp [exec, execAdvertise, off]

end

/-- Settles O37: below UP a lock is the port's alone. -/
theorem locksFollowTheLane : Obligations.LocksFollowTheLane := by
  intro s
  refine ⟨fun groups aligned => ⟨fun training => ?_, fun elsewhere => ?_, fun training => ?_, fun elsewhere => ?_⟩,
    fun inFrame g normal locked on => ?_, fun inFrame g normal locked on => ?_, fun locked below => ?_, fun locked below => ?_,
    fun cause unlock => ⟨fun training => ?_, fun waiting => ?_⟩, fun cause unlock => ⟨fun training => ?_, fun waiting => ?_⟩,
    fun groups cause inFrame g => ⟨upstream_off, downstream_off⟩⟩
  · rw [receiveLockGained_upstream aligned, lockUpstream, if_pos training]
  · rw [receiveLockGained_upstream aligned, lockUpstream, if_neg elsewhere]
  · rw [receiveLockGained_downstream aligned, lockDownstream, if_pos training]
  · rw [receiveLockGained_downstream aligned, lockDownstream, if_neg elsewhere]
  · exact congrArg Host.Outcome.next ((if_pos normal).trans (if_pos ⟨locked, on⟩))
  · exact congrArg Host.Outcome.next ((if_pos normal).trans (if_pos ⟨locked, on⟩))
  · rw [farLockClear_upstream, clearFarUpstream]
    obtain training | waiting := below
    · simp only [locked, if_true, training]
    · simp only [locked, if_true, waiting]
  · rw [farLockClear_downstream, clearFarDownstream]
    obtain training | waiting := below
    · simp only [locked, if_true, training]
    · simp only [locked, if_true, waiting]
  · simp only [receiveLockLost_upstream unlock, unlockUpstream, training]
  · simp only [receiveLockLost_upstream unlock, unlockUpstream, waiting, trainUpstream]
  · simp only [receiveLockLost_downstream unlock, unlockDownstream, training]
  · simp only [receiveLockLost_downstream unlock, unlockDownstream, waiting, trainDownstream, cutSend]

theorem advertiseSend_ready (owed : s.up.advertisementOwed = true) (far : s.up.farLock = true) (empty : s.fh.transit = [])
    (reads : readsSymbols s.up.link = true) : exec .advertiseSend s = .next (
      if s.up.link = .creditWait then { s with
        up := { s.up with link := .up, advertisementOwed := false, badRun := 0, sent := s.up.sent ++ [.advertise] } }
      else { s with up := { s.up with advertisementOwed := false, sent := s.up.sent ++ [.advertise] } }) :=
  congrArg Host.Outcome.next (if_pos ⟨owed, far, empty, reads⟩)

/-- Settles O39: each symbol by the state of the link that carries it. -/
theorem creditSymbols : Obligations.CreditSymbols := by
  intro s
  refine ⟨fun up room => ?_, fun still => ?_, fun training => ⟨?_, ?_⟩, fun waiting => ?_, fun up => ?_, fun up => ?_, fun waiting => ?_,
    fun waiting owed far empty => ?_, fun up owed far empty => ?_, fun idle => ?_⟩
  · have seen := seeNormalDown_reads (s := s) (by rw [up]; rfl)
    exact congrArg Host.Outcome.next ((if_pos ⟨up, room⟩).trans (by rw [seen]))
  · have reads : readsSymbols s.down.link = true := by
      obtain ⟨up, -⟩ | waiting := still
      · rw [up]; rfl
      · rw [waiting]; rfl
    refine congrArg Host.Outcome.next ((if_neg ?_).trans (seeNormalDown_reads reads))
    rintro ⟨up, room⟩
    obtain ⟨-, full⟩ | waiting := still
    · exact absurd room (not_lt.2 full)
    · cases up.symm.trans waiting
  · exact congrArg Host.Outcome.next ((if_neg (by simp [training])).trans (seeNormalDown_deaf (by rw [training]; rfl)))
  · simp only [exec, execAdvertise, training]
  · simp only [exec, execAdvertise, waiting]
  · rw [receiveLockLost_downstream rfl]
    simp only [exec, execAdvertise, up]
  · have seen := seeNormalUp_reads (s := s) (by rw [up]; rfl)
    exact congrArg Host.Outcome.next ((if_pos up).trans (by rw [seen]))
  · exact congrArg Host.Outcome.next ((if_neg (by simp [waiting])).trans (seeNormalUp_reads (by rw [waiting]; rfl)))
  · rw [advertiseSend_ready owed far empty (by rw [waiting]; rfl), if_pos waiting]
  · rw [advertiseSend_ready owed far empty (by rw [up]; rfl), if_neg (by simp [up])]
  · refine congrArg Host.Outcome.next (if_neg ?_)
    rintro ⟨owed, far, empty, -⟩
    simp [owed, far, empty] at idle

end
end Sys2Proof.Machine
end

section
/-! PROOF. The frame taken into hand: discards, stripping and the return of own ballots (R40 to R47, R103, R114 to R118). -/

namespace Sys2Proof.Machine

section
variable {s t : State} {ready later : List TransitEntry} {f : Frame} {b : Ballot} {i : SlotNo} {r : Record}

/-! ### The tests of R114 -/

theorem dropHand_inHand (h : Takes s ready f later) : dropHand (inHand s ready f later) = leftQueue s ready later :=
  dropHand_hand h.before h.after rfl

theorem countReturn_inHand (h : Takes s ready f later) :
    countReturn f (dropHand (inHand s ready f later)) = stripped s ready f later := by
  rw [dropHand_inHand h]
  rfl

theorem processHand_own (own : f.origin = s.stationId) : processHand f s = strip f s := if_pos own

theorem processHand_spent (foreign : f.origin ≠ s.stationId) (spent : 15 ≤ f.hop.toNat) :
    processHand f s = .done (dropHand s) := (if_neg foreign).trans (if_pos spent)

theorem processHand_active (foreign : f.origin ≠ s.stationId) (fresh : f.hop.toNat < 15)
    (allowed : dueAllowed s.ctl.state = true) : processHand f s = dispatchActive f s :=
  (if_neg foreign).trans ((if_neg (not_le.2 fresh)).trans (if_pos (by simpa [dueAllowed] using allowed)))

theorem processHand_forming (foreign : f.origin ≠ s.stationId) (fresh : f.hop.toNat < 15)
    (denied : dueAllowed s.ctl.state = false) : processHand f s = dispatchForming f s :=
  (if_neg foreign).trans ((if_neg (not_le.2 fresh)).trans (if_neg (by simpa [dueAllowed] using denied)))

/-- The taken frame is processed as its reading says. -/
theorem frameTaking_runs {x : Reading} (h : Takes s ready f later) (run : processHand f (inHand s ready f later) = x) :
    exec .frameTaking s = .next x.settle :=
  run ▸ frameTaking_takes h

/-- An own frame is stripped (R116). -/
theorem frameTaking_own (h : Takes s ready f later) (own : f.origin = s.stationId) :
    exec .frameTaking s = .next (strip f (inHand s ready f later)).settle := frameTaking_runs h (processHand_own own)

/-- A foreign frame at the hop limit is discarded (R115). -/
theorem frameTaking_spent (h : Takes s ready f later) (foreign : f.origin ≠ s.stationId) (spent : 15 ≤ f.hop.toNat) :
    exec .frameTaking s = .next (leftQueue s ready later) :=
  dropHand_inHand h ▸ frameTaking_runs h (processHand_spent (s := inHand s ready f later) foreign spent)

/-- A foreign frame below the hop limit in ACTIVE or LEAVING is dispatched there (R117). -/
theorem frameTaking_active (h : Takes s ready f later) (foreign : f.origin ≠ s.stationId) (fresh : f.hop.toNat < 15)
    (allowed : dueAllowed s.ctl.state = true) :
    exec .frameTaking s = .next (dispatchActive f (inHand s ready f later)).settle :=
  frameTaking_runs h (processHand_active foreign fresh allowed)

/-- A foreign frame below the hop limit in FORMING or ISOLATED is dispatched there (R118). -/
theorem frameTaking_forming (h : Takes s ready f later) (foreign : f.origin ≠ s.stationId) (fresh : f.hop.toNat < 15)
    (denied : dueAllowed s.ctl.state = false) :
    exec .frameTaking s = .next (dispatchForming f (inHand s ready f later)).settle :=
  frameTaking_runs h (processHand_forming foreign fresh denied)

theorem takeOldest_eq_none {queue : List TransitEntry} (none' : ∀ e ∈ queue, e.cond ≠ .awaiting) : takeOldest queue = none := by
  induction queue with
  | nil => rfl
  | cons e es ih =>
    rw [takeOldest, if_neg (none' e (by simp)), ih fun x hx => none' x (by simp [hx])]
    rfl

/-! ### Discards and strips -/

/-- What dispatch in ACTIVE and LEAVING discards (R117). -/
theorem dispatchActive_discards
    (h : (isCounted f = true ∧ f.epoch ≠ s.census.epoch) ∨ (isCensus f = true ∧ f.epoch.toNat ≤ s.census.epoch.toNat) ∨
      ∃ members, f.body = .roster members) :
    dispatchActive f s = .done (dropHand s) := by
  cases body : f.body with
  | census members =>
    have below : f.epoch.toNat ≤ s.census.epoch.toNat := by simpa [isCounted, isCensus, body] using h
    simp only [dispatchActive, body]
    exact if_neg (not_lt.2 below)
  | roster members => simp only [dispatchActive, body]
  | ballot b =>
    have old : f.epoch ≠ s.census.epoch := by simpa [isCounted, isCensus, body] using h
    simp only [dispatchActive, body, if_neg old]
  | announce a =>
    have old : f.epoch ≠ s.census.epoch := by simpa [isCounted, isCensus, body] using h
    simp only [dispatchActive, body, if_neg old]
  | release x =>
    have old : f.epoch ≠ s.census.epoch := by simpa [isCounted, isCensus, body] using h
    simp only [dispatchActive, body, if_neg old]

/-- What dispatch in FORMING and ISOLATED discards (R118). -/
theorem dispatchForming_discards (counted : isCounted f = true) : dispatchForming f s = .done (dropHand s) := by
  cases body : f.body with
  | census members => simp [isCounted, body] at counted
  | roster members => simp [isCounted, body] at counted
  | ballot b => simp only [dispatchForming, body]
  | announce a => simp only [dispatchForming, body]
  | release x => simp only [dispatchForming, body]

theorem dueAllowed_of_formingOrIsolated (forming : formingOrIsolated s.ctl.state = true) : dueAllowed s.ctl.state = false := by
  revert forming
  cases s.ctl.state <;> decide

/-- An own frame with nothing more to do is stripped alone (R116). -/
theorem strip_alone (h : Takes s ready f later) (noBallot : isBallot f = false)
    (noCensus : isCensus f = true → dueAllowed s.ctl.state = true) :
    strip f (inHand s ready f later) = .done (stripped s ready f later) := by
  have counted := countReturn_inHand h
  cases body : f.body with
  | ballot b => simp [isBallot, body] at noBallot
  | census members =>
    have state : ¬ formingOrIsolated s.ctl.state = true := fun forming => by
      have allowed := noCensus (by simp [isCensus, body])
      rw [dueAllowed_of_formingOrIsolated forming] at allowed
      cases allowed
    simp only [strip, body, counted]
    exact if_neg state
  | roster members => simp only [strip, body, counted]
  | announce a => simp only [strip, body, counted]
  | release x => simp only [strip, body, counted]

/-- FRAME_TAKING with a frame already in hand does nothing (R114). -/
theorem frameTaking_handFull (h : handFrame s ≠ none) : exec .frameTaking s = .next s := by
  refine congrArg Host.Outcome.next ?_
  split
  next hand _ => exact absurd hand h
  next => rfl

/-- FRAME_TAKING with no awaiting frame does nothing (R114). -/
theorem frameTaking_nothing (h : ∀ x ∈ s.fh.transit, x.cond ≠ .awaiting) : exec .frameTaking s = .next s := by
  refine congrArg Host.Outcome.next ?_
  split
  next taken => cases (takeOldest_eq_none h).symm.trans taken
  next => rfl

/-- Settles O40. -/
theorem framesDiscardedOrStripped : Obligations.FramesDiscardedOrStripped := by
  refine ⟨fun s ready f later h foreign cause => ?_, fun s ready f later h own noBallot noCensus => ?_,
    fun s none' => frameTaking_nothing none', fun s _ hand => frameTaking_handFull hand⟩
  · by_cases spent : 15 ≤ f.hop.toNat
    · exact frameTaking_spent h foreign spent
    have fresh := not_le.1 spent
    cases allowed : dueAllowed s.ctl.state with
    | true =>
      have discard : (isCounted f = true ∧ f.epoch ≠ s.census.epoch) ∨
          (isCensus f = true ∧ f.epoch.toNat ≤ s.census.epoch.toNat) ∨ ∃ members, f.body = .roster members := by
        simpa [spent, allowed] using cause
      rw [frameTaking_active h foreign fresh allowed, dispatchActive_discards (s := inHand s ready f later) discard, dropHand_inHand h]
      rfl
    | false =>
      have counted : isCounted f = true := by simpa [spent, allowed] using cause
      rw [frameTaking_forming h foreign fresh allowed, dispatchForming_discards counted, dropHand_inHand h]
      rfl
  · rw [frameTaking_own h own, strip_alone h noBallot noCensus]
    rfl

/-! ### The return of an own ballot -/

theorem getLsbD_stationBit (m n : StationId) : (stationBit m).getLsbD n.toNat = (n == m) := by
  have bound := n.isLt
  have same : (n.toNat = m.toNat) ↔ n = m := BitVec.toNat_inj
  rw [stationBit, BitVec.getLsbD_shiftLeft, BitVec.getLsbD_one, Bool.eq_iff_iff]
  simp only [Bool.and_eq_true, decide_eq_true_eq, Bool.not_eq_true', decide_eq_false_iff_not, beq_iff_eq, ← same]
  omega

theorem getLsbD_stationSet (ids : List StationId) (n : StationId) : (stationSet ids).getLsbD n.toNat = decide (n ∈ ids) := by
  induction ids with
  | nil => simp [stationSet]
  | cons m ms ih =>
    have step : stationSet (m :: ms) = stationBit m ||| stationSet ms := rfl
    rw [step, BitVec.getLsbD_or, getLsbD_stationBit, ih]
    simp [Bool.beq_eq_decide_eq, List.mem_cons, Bool.decide_or]

/-- Two station sets with the same members are the same set. -/
theorem stationSet_ext {x y : StationSet} (h : ∀ n : StationId, x.getLsbD n.toNat = y.getLsbD n.toNat) : x = y := by
  refine BitVec.eq_of_getLsbD_eq fun k bound => ?_
  have same := h (BitVec.ofNat 4 k)
  rwa [BitVec.toNat_ofNat, Nat.mod_eq_of_lt bound] at same

/-- The roster less this station is what a genuine return has visited (R41). -/
theorem expectedVisitors_eq (h : ∀ n : StationId, b.visited.getLsbD n.toNat = true ↔ n ∈ s.census.roster ∧ n ≠ s.stationId) :
    b.visited = expectedVisitors s := by
  refine stationSet_ext fun n => Bool.eq_iff_iff.2 ?_
  rw [h n, expectedVisitors, getLsbD_stationSet]
  simp

theorem matchesReturn_iff : matchesReturn b r = true ↔
    r.kind = .own ∧ r.state = .pending ∧ r.identity.count = b.count ∧ r.issue = b.issue ∧ r.mainTimer.isSome = true := by
  simp [matchesReturn, and_assoc]

theorem Returns.lookup (sound : s.undamaged) (h : Returns s b i r) : lookup (matchesReturn b) s = .found i r := by
  obtain ⟨held, own, pending, count, issue, timer, lowest⟩ := h
  refine lookup_found sound held (matchesReturn_iff.2 ⟨own, pending, count, issue, timer⟩) fun j q below heldQ => ?_
  exact Bool.eq_false_iff.2 fun hit => lowest j q below heldQ (matchesReturn_iff.1 hit)

/-- The lowest record that a test picks, when any record passes it. -/
theorem exists_lowest {p : Record → Prop} {s : State} (some' : ∃ i r, s.record i = some r ∧ p r) :
    ∃ i r, s.record i = some r ∧ p r ∧ ∀ j q, j < i → s.record j = some q → ¬ p q := by
  obtain ⟨i, ⟨r, held, hit⟩, lowest⟩ := WellFounded.has_min (wellFounded_lt (α := SlotNo))
    {i | ∃ r, s.record i = some r ∧ p r} some'
  exact ⟨i, r, held, hit, fun j q below heldQ hitQ => lowest j ⟨q, heldQ, hitQ⟩ below⟩

theorem ballot_stale (sound : s.undamaged) (h : ∀ i r, ¬ Returns s b i r) : lookup (matchesReturn b) s = .absent := by
  refine lookup_absent sound fun i r held => Bool.eq_false_iff.2 fun hit => ?_
  obtain ⟨j, q, heldQ, hitQ, lowest⟩ := exists_lowest (p := fun r => matchesReturn b r = true) ⟨i, r, held, hit⟩
  obtain ⟨own, pending, count, issue, timer⟩ := matchesReturn_iff.1 hitQ
  exact h j q ⟨heldQ, own, pending, count, issue, timer, fun k x below heldX yes =>
    lowest k x below heldX (matchesReturn_iff.2 yes)⟩

/-- An own BALLOT is stripped and goes to the claim engine (R40, R116). -/
theorem frameTaking_return (h : Takes s ready f later) (own : f.origin = s.stationId) (body : f.body = .ballot b) :
    exec .frameTaking s = .next (ballotReturns f b (stripped s ready f later)).settle := by
  rw [frameTaking_own h own, strip, body, countReturn_inHand h]

/-- A returned ballot that matches a record (R40, R41). -/
theorem ballotReturns_found (epoch : f.epoch = s.census.epoch) (found : lookup (matchesReturn b) s = .found i r) :
    ballotReturns f b s = if b.visited = expectedVisitors s then genuineReturn i b r s
      else ballotLoss i { r with mainTimer := none } s := by
  rw [ballotReturns, if_pos epoch, found]

/-- A retirement does not depend on the timer of the record. -/
theorem Retires.anyTimer {out : RecOutcome} {reason : ReleaseReason} {notice : Option NoticeMark}
    (h : Retires i { r with mainTimer := none } out reason notice s t) : Retires i r out reason notice s t :=
  ⟨h.slot, h.others, h.sound⟩

theorem enterWaiting_eq (cause : WaitCause) (r : Record) : enterWaiting cause r = { r with
    state := .waiting, waitCause := some cause, mainTimer := none, due := none, releaseSeen := false,
    waitingReported := true,
    notice := if r.waitingReported then r.notice
      else some { notice := .waiting cause, replaced := r.notice.isSome } } := by
  cases reported : r.waitingReported <;> simp [enterWaiting, setNotice, reported]

/-- A genuine return, by its objector set, release-seen and NO_WAIT (R41 to R44). -/
theorem genuineReturn_granted (empty : b.objectors = 0) : genuineReturn i b r s =
    .done (writeRecord i (grantRecord s.ctl.config.term { r with lossCount := 0, mainTimer := none }) s) := if_pos empty

theorem genuineReturn_again (objectors : b.objectors ≠ 0) (seen : r.releaseSeen = true) : genuineReturn i b r s =
    .done (writeRecord i (newIssue { r with lossCount := 0, mainTimer := none }) s) :=
  (if_neg objectors).trans (if_pos seen)

theorem genuineReturn_failed (objectors : b.objectors ≠ 0) (unseen : r.releaseSeen = false) (noWait : r.noWait = true) :
    genuineReturn i b r s =
      retireSlot i { r with lossCount := 0, mainTimer := none } (.failed .conflict) .withdrawn (some (.failed .conflict)) s :=
  (if_neg objectors).trans ((if_neg (Bool.eq_false_iff.1 unseen)).trans (if_pos noWait))

theorem genuineReturn_waits (objectors : b.objectors ≠ 0) (unseen : r.releaseSeen = false) (wait : r.noWait = false) :
    genuineReturn i b r s = .done (writeRecord i (enterWaiting .remote { r with lossCount := 0, mainTimer := none }) s) :=
  (if_neg objectors).trans ((if_neg (Bool.eq_false_iff.1 unseen)).trans (if_neg (Bool.eq_false_iff.1 wait)))

/-- Settles O41, by the branches of a genuine return. -/
theorem genuineReturnDecides : Obligations.GenuineReturnDecides := by
  intro s ready f later b i r h own body epoch sound returns visited
  let on := stripped s ready f later
  have genuine : exec .frameTaking s = .next (genuineReturn i b r on).settle := by
    rw [frameTaking_return h own body, ballotReturns_found (s := on) epoch (Returns.lookup (s := on) sound returns),
      if_pos (expectedVisitors_eq (s := on) visited)]
  obtain ⟨-, -, pending, -⟩ := returns
  refine ⟨fun empty => ?_, fun objectors seen => ?_, fun objectors unseen wait => ?_, fun objectors unseen noWait => ?_⟩
  · rw [genuine, genuineReturn_granted empty]
    rfl
  · rw [genuine, genuineReturn_again objectors seen]
    simp only [Reading.settle, newIssue, pending]
    rfl
  · rw [genuine, genuineReturn_waits objectors unseen wait]
    simp only [Reading.settle, enterWaiting_eq]
    rfl
  · obtain ⟨t, run, only, retires⟩ := retires_settled (s := on) (i := i) (r := { r with lossCount := 0, mainTimer := none })
      (out := .failed .conflict) (reason := .withdrawn) (.failed .conflict) sound
    refine ⟨t, ?_, only, Retires.anyTimer (r := { r with lossCount := 0 }) ⟨retires.slot, retires.others, retires.sound⟩⟩
    rw [genuine, genuineReturn_failed objectors unseen noWait, run]

/-- Settles O42. -/
theorem lostAndStaleReturns : Obligations.LostAndStaleReturns := by
  refine ⟨fun s ready f later b i r h own body epoch sound returns wrong => ?_,
    fun s ready f later b h own body stale => ?_, enterWaiting_eq⟩
  · let on := stripped s ready f later
    have lost : exec .frameTaking s = .next (ballotLoss i { r with mainTimer := none } on).settle := by
      rw [frameTaking_return h own body, ballotReturns_found (s := on) epoch (Returns.lookup (s := on) sound returns)]
      exact congrArg (fun x => Host.Outcome.next (Reading.settle x)) (if_neg wrong)
    obtain ⟨-, -, pending, -⟩ := returns
    refine ⟨fun first => ?_, fun fourth => ?_⟩
    · rw [lost, ballotLoss, if_pos first]
      simp only [Reading.settle, newIssue, pending]
      rfl
    · obtain ⟨t, run, only, retires⟩ := retires_settled (s := on) (i := i) (r := { r with mainTimer := none })
        (out := .failed .ringFault) (reason := .withdrawn) (.failed .ringFault) sound
      refine ⟨t, ?_, only, Retires.anyTimer ⟨retires.slot, retires.others, retires.sound⟩⟩
      rw [lost, ballotLoss, if_neg (not_lt.2 fourth), run]
  · rw [frameTaking_return h own body, ballotReturns]
    obtain old | ⟨sound, none'⟩ := stale
    · exact congrArg (fun x => Host.Outcome.next (Reading.settle x)) (if_neg old)
    · split
      · rw [ballot_stale (s := stripped s ready f later) sound none']
        rfl
      · rfl

end

end Sys2Proof.Machine
end

section
/-! PROOF. Foreign ANNOUNCE, RELEASE and BALLOT frames in ACTIVE and LEAVING (R64 to R70, R80 to R85, R117, R119, R120). -/

namespace Sys2Proof.Machine

section
variable {s t v w : State} {ready later : List TransitEntry} {f : Frame} {i j : SlotNo} {r q : Record} {identity : Stamp}

/-! ### Shadows by identity -/

theorem isShadowOf_iff : isShadowOf identity r = true ↔ r.kind = .shadow ∧ r.identity = identity := by
  simp [isShadowOf]

theorem lookup_shadow (sound : s.undamaged) (held : s.record i = some r) (shadow : r.kind = .shadow) (named : r.identity = identity)
    (lowest : ∀ j q, j < i → s.record j = some q → ¬ (q.kind = .shadow ∧ q.identity = identity)) :
    lookup (isShadowOf identity) s = .found i r :=
  lookup_found sound held (isShadowOf_iff.2 ⟨shadow, named⟩) fun j q below heldQ =>
    Bool.eq_false_iff.2 fun hit => lowest j q below heldQ (isShadowOf_iff.1 hit)

theorem lookup_noShadow (sound : s.undamaged)
    (none' : ∀ j q, s.record j = some q → ¬ (q.kind = .shadow ∧ q.identity = identity)) :
    lookup (isShadowOf identity) s = .absent :=
  lookup_absent sound fun j q held => Bool.eq_false_iff.2 fun hit => none' j q held (isShadowOf_iff.1 hit)

/-! ### ANNOUNCE -/

section
variable {a : Announce}

theorem processAnnounce_refreshes (found : lookup (isShadowOf (announceIdentity f a)) s = .found i r) (live : r.state ≠ .retired) :
    processAnnounce f a s = .done (writeRecord i (refreshShadow (clampTerm a.term) r) s) := by
  rw [processAnnounce, found]
  exact if_neg live

theorem processAnnounce_retired (found : lookup (isShadowOf (announceIdentity f a)) s = .found i r) (retired : r.state = .retired) :
    processAnnounce f a s = .done (setIncomplete s) := by
  rw [processAnnounce, found]
  exact if_pos retired

theorem processAnnounce_creates (absent : lookup (isShadowOf (announceIdentity f a)) s = .absent) (free : lowestFree s = some i) :
    processAnnounce f a s = .done (writeRecord i (newShadow (announceIdentity f a) a) s) := by
  rw [processAnnounce, absent]
  simp only [free]

theorem processAnnounce_full (absent : lookup (isShadowOf (announceIdentity f a)) s = .absent) (full : lowestFree s = none) :
    processAnnounce f a s = .done (setIncomplete s) := by
  rw [processAnnounce, absent]
  simp only [full]

/-- A foreign ANNOUNCE of the epoch is processed and marked ready (R117, R119). -/
theorem frameTaking_announce (h : Takes s ready f later) (foreign : f.origin ≠ s.stationId) (fresh : f.hop.toNat < 15)
    (allowed : dueAllowed s.ctl.state = true) (epoch : f.epoch = s.census.epoch) (body : f.body = .announce a)
    (run : processAnnounce f a (inHand s ready f later) = .done v)
    (queue : v.fh.transit = (inHand s ready f later).fh.transit) :
    exec .frameTaking s = .next (forwarded v ready f later) := by
  have dispatched : dispatchActive f (inHand s ready f later) = thenReady f (processAnnounce f a (inHand s ready f later)) := by
    rw [dispatchActive, body]
    exact if_pos epoch
  rw [frameTaking_active h foreign fresh allowed, dispatched, run, ← readyHand_hand f h.before h.after queue]
  rfl

theorem toNat_clampTerm (x : Word16) : (clampTerm x).toNat = max 100 (min 60000 x.toNat) := by
  unfold clampTerm
  simp only [Config.minTerm, Config.maxTerm]
  split
  · bv_omega
  · split <;> bv_omega

/-- Settles O43, by the outcome of the lookup and of the search for a FREE slot. -/
theorem foreignAnnounce : Obligations.ForeignAnnounce := by
  intro s ready f later a h foreign fresh allowed epoch body sound identity on
  have runs : ∀ v, processAnnounce f a (inHand s ready f later) = .done v →
      v.fh.transit = (inHand s ready f later).fh.transit → exec .frameTaking s = .next (forwarded v ready f later) :=
    fun v => frameTaking_announce h foreign fresh allowed epoch body
  refine ⟨fun i r held shadow named lowest => ?_, fun none' => ?_, toNat_clampTerm a.term⟩
  · have found := lookup_shadow (s := inHand s ready f later) sound held shadow named lowest
    exact ⟨fun live => runs _ (processAnnounce_refreshes found live) rfl,
      fun retired => runs _ (processAnnounce_retired found retired) rfl⟩
  · have absent := lookup_noShadow (s := inHand s ready f later) sound none'
    exact ⟨fun i free below => runs _ (processAnnounce_creates absent (lowestFree_eq_some.2 ⟨free, below⟩)) rfl,
      fun full => runs _ (processAnnounce_full absent (lowestFree_eq_none.2 full)) rfl⟩

end

/-! ### RELEASE -/

section
variable {x : Release}

theorem reasonOfByte_eq (b : Byte) : reasonOfByte b = match b.toNat with
    | 1 => .released
    | 2 => .expired
    | 3 => .withdrawn
    | 4 => .orphanLapsed
    | 5 => .fenceEnd
    | _ => .released := by
  revert b
  decide

theorem reasonOfByte_eq_fenceEnd {b : Byte} : reasonOfByte b = .fenceEnd ↔ b = 0x05 := by
  revert b
  decide

theorem processRelease_fenceEnd (reason : x.reason = 0x05) : processRelease x s = wake wholeSpace s :=
  if_pos (reasonOfByte_eq_fenceEnd.2 reason)

/-- A RELEASE that names a LIVE or ORPHANED shadow retires it before the wake rule runs (R84). -/
theorem processRelease_retires (reason : x.reason ≠ 0x05) (found : lookup (isShadowOf (releaseIdentity x)) s = .found i r)
    (live : r.state ≠ .retired) :
    processRelease x s = wakeOver (fun y => overlaps y x.range || overlaps y r.range)
      (freeIfDone i (writeRecord i (retireShadow s.ctl.state .released (reasonOfByte x.reason) r) s)) := by
  rw [processRelease, if_neg (reasonOfByte_eq_fenceEnd.not.2 reason), found]
  exact if_neg live

/-- A RELEASE that names no LIVE or ORPHANED shadow wakes over its own range (R84). -/
theorem processRelease_wakes (sound : s.undamaged) (reason : x.reason ≠ 0x05)
    (gone : ∀ i r, s.record i = some r → r.kind = .shadow → r.identity = releaseIdentity x →
      (∀ j q, j < i → s.record j = some q → ¬ (q.kind = .shadow ∧ q.identity = releaseIdentity x)) → r.state = .retired) :
    processRelease x s = wake x.range s := by
  rw [processRelease, if_neg (reasonOfByte_eq_fenceEnd.not.2 reason)]
  by_cases some' : ∃ i r, s.record i = some r ∧ r.kind = .shadow ∧ r.identity = releaseIdentity x
  · obtain ⟨i, r, held, ⟨shadow, named⟩, lowest⟩ :=
      exists_lowest (p := fun r => r.kind = .shadow ∧ r.identity = releaseIdentity x) some'
    rw [lookup_shadow sound held shadow named lowest]
    exact if_pos (gone i r held shadow named lowest)
  · rw [lookup_noShadow sound fun j q held hit => some' ⟨j, q, held, hit⟩]

/-- What a foreign RELEASE makes of a shadow it retires, and of the other slots (R25, R46, R84). -/
theorem shadowReleased_done (sound : s.undamaged) (shadow : r.kind = .shadow) (reason : ReleaseReason) (hit : Range → Bool) :
    ∃ t, wakeOver hit (freeIfDone i (writeRecord i (retireShadow s.ctl.state .released reason r) s)) = .done t ∧
      t = { s with table := t.table } ∧ t.undamaged ∧
      t.record i = keepUnlessDone (retireShadow s.ctl.state .released reason r) ∧ ∀ j, j ≠ i → WakesOver hit s t j := by
  let q := retireShadow s.ctl.state .released reason r
  let v := freeIfDone i (writeRecord i q s)
  have inSlot : v.record i = keepUnlessDone q := by
    rw [freeIfDone_record, if_pos rfl, record_writeRecord_self]
    rfl
  have elsewhere : ∀ j, j ≠ i → v.record j = s.record j := fun j other => by
    rw [freeIfDone_record, if_neg (Ne.symm other), record_writeRecord_ne _ _ _ _ (Ne.symm other)]
  obtain ⟨t, done, only, sound', wakes⟩ := wakeOver_done (undamaged_freeIfDone (undamaged_writeRecord sound i q) i) hit
  refine ⟨t, done, only, sound', ?_, fun j other => ?_⟩
  · have unowned : q.kind ≠ .own := by simp [q, retireShadow, shadow]
    have woken := wakes i
    unfold WakesOver at woken
    rw [woken, inSlot, keepUnlessDone]
    split
    · rfl
    · exact congrArg some (if_neg fun woke => unowned woke.2.1)
  · have woken := wakes j
    unfold WakesOver at woken ⊢
    rw [woken, elsewhere j other]
    rfl

/-- A frame processed with no change but to the table is then forwarded (R119, R120). -/
theorem frameTaking_release (h : Takes s ready f later) (foreign : f.origin ≠ s.stationId) (fresh : f.hop.toNat < 15)
    (allowed : dueAllowed s.ctl.state = true) (epoch : f.epoch = s.census.epoch) (body : f.body = .release x)
    (run : processRelease x (inHand s ready f later) = .done w) (only : w = { inHand s ready f later with table := w.table }) :
    exec .frameTaking s = .next { forwarded s ready f later with table := w.table } := by
  have dispatched : dispatchActive f (inHand s ready f later) = thenReady f (processRelease x (inHand s ready f later)) := by
    rw [dispatchActive, body]
    exact if_pos epoch
  have sent : readyHand f w = { forwarded s ready f later with table := w.table } :=
    (congrArg (readyHand f) only).trans (readyHand_hand f h.before h.after rfl)
  rw [frameTaking_active h foreign fresh allowed, dispatched, run, ← sent]
  rfl

/-- Settles O44: FENCE_END, a LIVE or ORPHANED shadow found, or none. -/
theorem foreignRelease : Obligations.ForeignRelease := by
  refine ⟨?_, reasonOfByte_eq⟩
  intro s ready f later x h foreign fresh allowed epoch body sound identity on
  let v := inHand s ready f later
  have runs : ∀ w, processRelease x v = .done w → w = { v with table := w.table } →
      exec .frameTaking s = .next { on with table := w.table } := fun w => frameTaking_release h foreign fresh allowed epoch body
  by_cases fenceEnd : x.reason = 0x05
  · obtain ⟨w, done, only, sound', wakes⟩ := wake_done (s := v) sound wholeSpace
    exact ⟨_, runs w ((processRelease_fenceEnd fenceEnd).trans done) only, rfl, sound', fun _ => wakes,
      fun other => absurd fenceEnd other, fun other => absurd fenceEnd other⟩
  by_cases named : ∃ i r, s.record i = some r ∧ r.kind = .shadow ∧ r.identity = identity ∧ r.state ≠ .retired ∧
      ∀ j q, j < i → s.record j = some q → ¬ (q.kind = .shadow ∧ q.identity = identity)
  · obtain ⟨i, r, held, shadow, same, live, lowest⟩ := named
    have found := lookup_shadow (s := v) sound held shadow same lowest
    obtain ⟨w, done, only, sound', gone, wakes⟩ := shadowReleased_done (s := v) (i := i) sound shadow (reasonOfByte x.reason)
      (fun y => overlaps y x.range || overlaps y r.range)
    refine ⟨_, runs w ((processRelease_retires fenceEnd found live).trans done) only, rfl, sound',
      fun isEnd => absurd isEnd fenceEnd, fun _ j q heldQ shadowQ sameQ _ lowestQ => ?_,
      fun _ none' => absurd ⟨shadow, same, live⟩ (none' i r held)⟩
    obtain rfl : j = i := by
      obtain below | same' | above := lt_trichotomy j i
      · exact absurd ⟨shadowQ, sameQ⟩ (lowest j q below heldQ)
      · exact same'
      · exact absurd ⟨shadow, same⟩ (lowestQ i r above held)
    obtain rfl : q = r := Option.some.inj (heldQ.symm.trans held)
    refine ⟨fun quiet unmarked => gone.trans ?_, fun objected => gone.trans ?_, wakes⟩
    · exact if_pos ⟨rfl, by simp [retireShadow, quiet], unmarked⟩
    · have allowed' : dueAllowed v.ctl.state = true := allowed
      simp [retireShadow, objected, dueIn, allowed', keepUnlessDone]
  · obtain ⟨w, done, only, sound', wakes⟩ := wake_done (s := v) sound x.range
    have run : processRelease x v = wake x.range v := processRelease_wakes sound fenceEnd fun i r held shadow same lowest =>
      Classical.byContradiction fun live => named ⟨i, r, held, shadow, same, live, lowest⟩
    exact ⟨_, runs w (run.trans done) only, rfl, sound', fun isEnd => absurd isEnd fenceEnd,
      fun _ i r held shadow same live lowest => absurd ⟨i, r, held, shadow, same, live, lowest⟩ named, fun _ _ => wakes⟩

end

/-! ### BALLOT -/

section
variable {b : Ballot}

/-- A foreign BALLOT of the epoch starts a scan (R64, R117). -/
theorem frameTaking_ballot (h : Takes s ready f later) (foreign : f.origin ≠ s.stationId) (fresh : f.hop.toNat < 15)
    (allowed : dueAllowed s.ctl.state = true) (epoch : f.epoch = s.census.epoch) (body : f.body = .ballot b) :
    exec .frameTaking s = .next (startScan f b (inHand s ready f later)) := by
  have dispatched : dispatchActive f (inHand s ready f later) = .done (startScan f b (inHand s ready f later)) := by
    rw [dispatchActive, body]
    exact if_pos epoch
  rw [frameTaking_active h foreign fresh allowed, dispatched]
  rfl

theorem raisedBy_eq (b : Ballot) (s : State) :
    raisedBy b s = { s with clock := if s.clock.toNat < b.count.toNat then b.count else s.clock } := by
  unfold raisedBy
  simp only [BitVec.lt_def]

theorem startScan_clear (fence : s.fenceActive = false) :
    startScan f b s = withScan (some { nextSlot := 0, objection := false }) (raisedBy b s) := by
  rw [startScan_eq, if_neg (Bool.eq_false_iff.1 fence)]

theorem startScan_fenced (fence : s.fenceActive = true) :
    startScan f b s = readyHand (writeVerdict s.stationId true f)
      { raisedBy b s with shadow := { s.shadow with fenceObjected := true } } := by
  rw [startScan_eq, if_pos fence]

theorem handFrame_inHand (queue : s.fh.transit = ready ++ { frame := f, cond := .inHand } :: later)
    (before : ∀ e ∈ ready, e.cond = .ready) : handFrame s = some f := by
  rw [handFrame, queue, List.find?_append, find_inHand_none fun e he => by simp [before e he]]
  rfl

/-- A visit reads the slot and judges its record (R67, R68). -/
theorem scanVisit_visits {found : Bool} (scan : s.scan = some { nextSlot := i.val, objection := found })
    (hand : handFrame s = some f) (body : f.body = .ballot b) (sound : (s.table.get i).damaged = false) :
    exec .scanVisit s = .next (visitSlot f b i found s) := by
  refine congrArg Host.Outcome.next ?_
  simp only [scan, hand, body, i.isLt, dif_pos, Fin.eta, sound, Bool.false_eq_true, if_false]

/-- A visit of a damaged slot meets a check error (R28, R67). -/
theorem scanVisit_meets {found : Bool} (scan : s.scan = some { nextSlot := i.val, objection := found })
    (hand : handFrame s = some f) (body : f.body = .ballot b) (live : s.ctl.state ≠ .halted)
    (damaged : (s.table.get i).damaged = true) : meetsCheckError .scanVisit s := by
  obtain ⟨halts, host⟩ := tableCheck_halts live i
  refine ⟨_, congrArg Host.Outcome.next ?_, halts, host⟩
  simp only [scan, hand, body, i.isLt, dif_pos, Fin.eta, damaged, if_true]

/-- The end of a visit: the next slot, or the verdict after slot 63 (R67, R70). -/
def visitEnds (f : Frame) (i : SlotNo) (objection : Bool) (s : State) : State :=
  if i.val + 1 < 64 then { s with scan := some { nextSlot := i.val + 1, objection := objection } }
  else readyHand (writeVerdict s.stationId objection f) { s with scan := none }

theorem visitEnds_next (h : i.val < 63) (objection : Bool) :
    visitEnds f i objection s = { s with scan := some { nextSlot := i.val + 1, objection := objection } } :=
  if_pos (by omega)

theorem visitEnds_last (h : i.val = 63) (objection : Bool) (queue : s.fh.transit = ready ++ { frame := f, cond := .inHand } :: later)
    (before : ∀ e ∈ ready, e.cond = .ready) (after : ∀ e ∈ later, e.cond = .awaiting) :
    visitEnds f i objection s = { forwarded s ready (writeVerdict s.stationId objection f) later with scan := none } :=
  (if_neg (by omega)).trans (readyHand_hand _ before after queue)

theorem visitSlot_objects {found : Bool} (held : s.record i = some r) (objects : objectsTo f b r = true) :
    visitSlot f b i found s = visitEnds f i true (writeRecord i { r with objected := true } s) := by
  have content : (s.table.get i).content = some r := held
  simp only [visitSlot, visitEnds, Slot.holds, content, Option.any_some, objects, if_true, Bool.or_true]

theorem visitSlot_passes {found : Bool} (passes : ∀ r, s.record i = some r → objectsTo f b r = false) :
    visitSlot f b i found s = visitEnds f i found s := by
  cases content : (s.table.get i).content with
  | none =>
    simp only [visitSlot, visitEnds, Slot.holds, content, Option.any_none, Bool.or_false]
  | some r =>
    simp only [visitSlot, visitEnds, Slot.holds, content, Option.any_some, passes r content, Bool.false_eq_true, if_false,
      Bool.or_false]

/-- When a visited record objects, the cases of R68 with PENDING and WAITING in one. -/
theorem objectsTo_iff : objectsTo f b r = true ↔
    conflicts r.range r.mode b.range (if b.mode = 0x01 then .shared else .exclusive) = true ∧
      ((r.kind = .own ∧ (r.state = .granted ∨
        ((r.state = .pending ∨ r.state = .waiting) ∧
          precedes r.identity { epoch := f.epoch, count := b.count, id := f.origin } = true))) ∨
       (r.kind = .shadow ∧ r.state = .orphaned)) := by
  rw [objectsTo, standsInTheWay_iff]
  refine and_congr Iff.rfl ?_
  rw [and_or_left, or_assoc]
  rfl

theorem writeVerdict_bits (id : StationId) (objection : Bool) (body : f.body = .ballot b) :
    ∃ v o, writeVerdict id objection f = { f with body := .ballot { b with visited := v, objectors := o } } ∧
      (∀ n : StationId, v.getLsbD n.toNat = (b.visited.getLsbD n.toNat || n == id)) ∧
      (∀ n : StationId, o.getLsbD n.toNat = (b.objectors.getLsbD n.toNat || (objection && n == id))) := by
  refine ⟨b.visited ||| stationBit id, if objection then b.objectors ||| stationBit id else b.objectors, ?_, fun n => ?_,
    fun n => ?_⟩
  · rw [writeVerdict, body]
  · rw [BitVec.getLsbD_or, getLsbD_stationBit]
  · cases objection <;> simp [getLsbD_stationBit]

/-- Settles O45. -/
theorem ballotScanned : Obligations.BallotScanned := by
  refine ⟨fun s ready f later b h foreign fresh allowed epoch body => ?_,
    fun s ready f later b i found queue before after body scan sound => ?_,
    fun s ready f later b i found queue before body scan live damaged =>
      scanVisit_meets scan (handFrame_inHand queue before) body live damaged,
    fun id objection f b => writeVerdict_bits id objection⟩
  · have starts := frameTaking_ballot h foreign fresh allowed epoch body
    refine ⟨fun fence => ?_, fun fence => ?_⟩
    · rw [starts, startScan_clear (s := inHand s ready f later) fence, raisedBy_eq]
      rfl
    · rw [starts, startScan_fenced (s := inHand s ready f later) fence, raisedBy_eq, readyHand_hand _ h.before h.after rfl]
      rfl
  · intro stamp mode objects
    have visits := scanVisit_visits scan (handFrame_inHand queue before) body sound
    refine ⟨fun r held obj => ?_, fun none' => ?_⟩
    · have ends := visits.trans (congrArg Host.Outcome.next (visitSlot_objects held (objectsTo_iff.2 obj)))
      refine ⟨_, ends, ?_, fun more => ?_, fun last => ?_⟩
      · unfold visitEnds
        split <;> rfl
      · rw [visitEnds_next more]
        rfl
      · rw [visitEnds_last last true (s := writeRecord i { r with objected := true } s) queue before after]
        rfl
    · have passes : visitSlot f b i found s = visitEnds f i found s :=
        visitSlot_passes fun r held => Bool.eq_false_iff.2 fun obj => none' r held (objectsTo_iff.1 obj)
      rw [visits, passes]
      exact ⟨fun more => congrArg _ (visitEnds_next more found),
        fun last => congrArg _ (visitEnds_last last found queue before after)⟩

end

end

end Sys2Proof.Machine
end

section
/-! PROOF. CENSUS and ROSTER frames: judgement, return and adoption (R117, R118, R132, R135 to R141, R146). -/

namespace Sys2Proof.Machine

section
variable {s t v : State} {ready later : List TransitEntry} {f : Frame} {members : List StationId} {k : Key} {c : CensusUnit}
  {id : StationId}

/-! ### The judgement of a foreign CENSUS -/

theorem judgeCensus_halts (best : c.bestKey = some k) (named : id ∈ members) (above : keyAbove (censusKey f) k = true) :
    judgeCensus id f members c = (.halt, c) := by
  rw [judgeCensus, best]
  exact (if_pos named).trans (if_pos above)

theorem judgeCensus_ownOlder (best : c.bestKey = some k) (named : id ∈ members) (notAbove : keyAbove (censusKey f) k = false) :
    judgeCensus id f members c = (.discard, c) := by
  rw [judgeCensus, best]
  exact (if_pos named).trans (if_neg (Bool.eq_false_iff.1 notAbove))

theorem judgeCensus_below (best : c.bestKey = some k) (unnamed : id ∉ members) (below : keyAbove k (censusKey f) = true) :
    judgeCensus id f members c = (.discard, c) := by
  have apart : some (censusKey f) ≠ some k := fun same => by
    rw [Option.some.inj same, keyAbove_irrefl] at below
    cases below
  rw [judgeCensus, best]
  exact (if_neg unnamed).trans ((if_neg apart).trans (if_neg (Bool.eq_false_iff.1 (keyAbove_asymm below))))

theorem judgeCensus_same (best : c.bestKey = some k) (unnamed : id ∉ members) (same : censusKey f = k) :
    judgeCensus id f members c = (.forward { f with duplicate := true }, c) := by
  rw [judgeCensus, best]
  exact (if_neg unnamed).trans (if_pos (congrArg some same))

theorem judgeCensus_above (best : c.bestKey = some k) (unnamed : id ∉ members) (above : keyAbove (censusKey f) k = true) :
    judgeCensus id f members c = (.forward (joinCensus id f members), acceptKey (censusKey f) c) := by
  have apart : some (censusKey f) ≠ some k := fun same => by
    rw [Option.some.inj same, keyAbove_irrefl] at above
    cases above
  rw [judgeCensus, best]
  exact (if_neg unnamed).trans ((if_neg apart).trans (if_pos above))

/-- In FORMING and ISOLATED a foreign CENSUS is judged at once (R118, R135). -/
theorem frameTaking_foreignCensus {verdict : CensusVerdict} (h : Takes s ready f later) (foreign : f.origin ≠ s.stationId)
    (fresh : f.hop.toNat < 15) (body : f.body = .census members) (forming : formingOrIsolated s.ctl.state = true)
    (judged : judgeCensus s.stationId f members s.census = (verdict, c)) :
    exec .frameTaking s = .next (applyVerdict verdict { inHand s ready f later with census := c }) := by
  have judged' : judgeCensus (inHand s ready f later).stationId f members (inHand s ready f later).census = (verdict, c) := judged
  have dispatched : dispatchForming f (inHand s ready f later) = .done (foreignCensus f members (inHand s ready f later)) := by
    rw [dispatchForming, body]
  rw [frameTaking_forming h foreign fresh (dueAllowed_of_formingOrIsolated forming), dispatched, foreignCensus, judged']
  rfl

/-- In ACTIVE a foreign CENSUS above the epoch is judged at the entry to FORMING (R117, R136). -/
theorem frameTaking_formingByCensus {verdict : CensusVerdict} (h : Takes s ready f later) (foreign : f.origin ≠ s.stationId)
    (fresh : f.hop.toNat < 15) (body : f.body = .census members) (active : s.ctl.state = .active)
    (newer : s.census.epoch.toNat < f.epoch.toNat) (done : formingBase (inHand s ready f later) = .done v)
    (judged : judgeCensus v.stationId f members v.census = (verdict, c)) :
    exec .frameTaking s = .next (applyVerdict verdict (markStateNow .forming none { v with census := c })) := by
  have dispatched : dispatchActive f (inHand s ready f later) = formingByCensus f members (inHand s ready f later) := by
    rw [dispatchActive, body]
    exact (if_pos newer).trans (if_pos active)
  rw [frameTaking_active h foreign fresh (by simp [active, dueAllowed]), dispatched, formingByCensus, done, Reading.andThen, judged]
  rfl

/-- In LEAVING a foreign CENSUS above the epoch detaches the station (R117). -/
theorem frameTaking_detaches (h : Takes s ready f later) (foreign : f.origin ≠ s.stationId)
    (fresh : f.hop.toNat < 15) (body : f.body = .census members) (leaving : s.ctl.state = .leaving)
    (newer : s.census.epoch.toNat < f.epoch.toNat) :
    exec .frameTaking s = .next (enterDetached .interrupted (inHand s ready f later)).settle := by
  have notActive : s.ctl.state ≠ .active := by simp [leaving]
  have dispatched : dispatchActive f (inHand s ready f later) = enterDetached .interrupted (inHand s ready f later) := by
    rw [dispatchActive, body]
    exact (if_pos newer).trans (if_neg notActive)
  rw [frameTaking_active h foreign fresh (by simp [leaving, dueAllowed]), dispatched]

/-- The mark of a judged entry to FORMING, seen from the state before it (R148, R149). -/
theorem control_of_formingMark (ctl : v.ctl = { s.ctl with state := .forming }) (fence : v.fenceActive = s.fenceActive)
    (mark : t.ctl = { v.ctl with stateMark := stateMarkOf .forming v t (orphanCount t) v.fenceActive none }) :
    t.ctl = { s.ctl with
      state := .forming, stateMark := stateMarkOf .forming s t (orphanCount t) s.fenceActive none } := by
  rw [mark, fence]
  simp only [stateMarkOf, ctl]

theorem Halts.ofHand {cause : HaltCause} (h : Halts cause (inHand s ready f later) t) : Halts cause s t :=
  ⟨h.control, h.upPort, h.downPort, h.queues, h.scanner, h.shadow, h.census, h.clock, h.kept, h.freed, h.sound⟩

theorem Detaches.ofHand {out : LeaveOutcome} (h : Detaches out (inHand s ready f later) t) : Detaches out s t :=
  ⟨h.control, h.upPort, h.downPort, h.queues, h.scanner, h.shadow, h.census, h.clock, h.shadows, h.free, h.freed, h.kept, h.sound⟩

/-- Settles O46, by the rows of R135. -/
theorem foreignCensusJudged : Obligations.ForeignCensusJudged := by
  intro s ready f later members k h foreign fresh body best key joined
  have judges {verdict : CensusVerdict} {c : CensusUnit} (forming : formingOrIsolated s.ctl.state = true) :=
    frameTaking_foreignCensus (verdict := verdict) (c := c) h foreign fresh body forming
  refine ⟨fun forming named above => ?_, fun forming named notAbove => ?_, fun forming unnamed below => ?_,
    fun forming unnamed same => ?_, fun forming unnamed above => ?_, fun active sound idle newer above unnamed => ?_,
    fun active sound idle newer above named => ?_, fun leaving sound newer => ?_⟩
  · exact ⟨_, judges forming (judgeCensus_halts best named above),
      Halts.ofHand (enterHalted_halts .duplicateId (inHand s ready f later)).1⟩
  · exact (judges forming (judgeCensus_ownOlder best named notAbove)).trans (congrArg _ (dropHand_hand h.before h.after rfl))
  · exact (judges forming (judgeCensus_below best unnamed below)).trans (congrArg _ (dropHand_hand h.before h.after rfl))
  · exact (judges forming (judgeCensus_same best unnamed same)).trans (congrArg _ (readyHand_hand _ h.before h.after rfl))
  · exact (judges forming (judgeCensus_above best unnamed above)).trans
      (congrArg _ (readyHand_hand _ h.before h.after rfl))
  · obtain ⟨v, done, table, ctl, shadow, census, origination, -, clock, outstanding, down, host, -, -, -, -, spare, -⟩ :=
      formingBase_done (s := inHand s ready f later) sound
    obtain ⟨up, transit⟩ := spare idle
    have station : v.stationId = s.stationId := by
      simp only [State.stationId, ctl]
      rfl
    have best' : v.census.bestKey = some k := by
      rw [census]
      exact best
    have run := frameTaking_formingByCensus h foreign fresh body active newer done
      (judgeCensus_above best' (station ▸ unnamed) above)
    have sent := readyHand_hand (s := markStateNow .forming none { v with census := acceptKey (censusKey f) v.census })
      (joinCensus s.stationId f members) h.before h.after transit
    rw [station, applyVerdict, sent] at run
    refine ⟨_, run, up, down, host, clock, rfl, origination, outstanding, table.of_parts rfl rfl, shadow,
      control_of_formingMark ctl (by rw [State.fenceActive, shadow]; rfl) rfl, ?_⟩
    change acceptKey (censusKey f) v.census = _
    rw [census]
    rfl
  · obtain ⟨v, done, -, ctl, -, census, -⟩ := formingBase_done (s := inHand s ready f later) sound
    have station : v.stationId = s.stationId := by
      simp only [State.stationId, ctl]
      rfl
    have best' : v.census.bestKey = some k := by
      rw [census]
      exact best
    have run := frameTaking_formingByCensus h foreign fresh body active newer done
      (judgeCensus_halts best' (station ▸ named) above)
    exact ⟨_, run, rfl, rfl⟩
  · obtain ⟨t, done, detaches, -⟩ := enterDetached_detaches (s := inHand s ready f later) sound .interrupted
    refine ⟨t, ?_, detaches.ofHand⟩
    rw [frameTaking_detaches h foreign fresh body leaving newer, done]
    rfl

/-! ### The return of an own CENSUS -/

theorem stripped_uncounted (uncounted : isCounted f = false) : stripped s ready f later = leftQueue s ready later := by
  simp only [stripped, leftQueue, uncounted, Bool.false_eq_true, false_and, if_false]

theorem frameTaking_ownCensus (h : Takes s ready f later) (own : f.origin = s.stationId) (body : f.body = .census members)
    (forming : formingOrIsolated s.ctl.state = true) :
    exec .frameTaking s = .next (ownCensusReturns f members (leftQueue s ready later)) := by
  have uncounted : isCounted f = false := by simp [isCounted, body]
  have returned : strip f (inHand s ready f later) = .done (ownCensusReturns f members (leftQueue s ready later)) := by
    rw [strip, countReturn_inHand h, stripped_uncounted uncounted, body]
    exact if_pos forming
  rw [frameTaking_own h own, returned]
  rfl

theorem judgeOwnCensus_best (best : c.bestKey = some k) (same : censusKey f = k) :
    judgeOwnCensus f members c = if f.duplicate then .halt else if f.overfull then .overfull
      else if 2 ≤ members.length ∧ members.length ≤ 16 ∧ members.Nodup then .roster { epoch := f.epoch, members := members }
      else .nothing := by
  rw [judgeOwnCensus, best]
  exact if_pos (congrArg some same)

/-- A returned CENSUS of the best key with neither flag is judged by its member list (R137). -/
theorem judgeOwnCensus_members (best : c.bestKey = some k) (same : censusKey f = k) (single : f.duplicate = false)
    (fits : f.overfull = false) : judgeOwnCensus f members c =
      if 2 ≤ members.length ∧ members.length ≤ 16 ∧ members.Nodup then .roster { epoch := f.epoch, members := members }
      else .nothing := by
  rw [judgeOwnCensus_best best same]
  simp only [single, fits, Bool.false_eq_true, if_false]

theorem judgeOwnCensus_other (best : c.bestKey = some k) (apart : censusKey f ≠ k) :
    judgeOwnCensus f members c = if keyAbove (censusKey f) k then .halt else .nothing := by
  rw [judgeOwnCensus, best]
  exact if_neg fun same => apart (Option.some.inj same)

theorem ownCensusReturns_halts (judged : judgeOwnCensus f members s.census = .halt) :
    ownCensusReturns f members s = enterHalted .duplicateId s := by rw [ownCensusReturns, judged]

theorem ownCensusReturns_nothing (judged : judgeOwnCensus f members s.census = .nothing) : ownCensusReturns f members s = s := by
  rw [ownCensusReturns, judged]

theorem ownCensusReturns_overfull (judged : judgeOwnCensus f members s.census = .overfull) :
    ownCensusReturns f members s = markFault .ringOverfull s := by rw [ownCensusReturns, judged]

theorem ownCensusReturns_roster {d : RosterDue} (judged : judgeOwnCensus f members s.census = .roster d) :
    ownCensusReturns f members s = { s with census := { s.census with rosterDue := some d } } := by
  rw [ownCensusReturns, judged]

/-- Settles O47, by the rows of R137. -/
theorem ownCensusReturns' : Obligations.OwnCensusReturns := by
  intro s ready f later members k h own body best forming key gone
  have run : exec .frameTaking s = .next (ownCensusReturns f members gone) := frameTaking_ownCensus h own body forming
  refine ⟨fun cause => ?_, fun below => ?_, fun same single full => ?_, fun same single fits enough few distinct => ?_,
    fun same single fits odd => ?_⟩
  · have judged : judgeOwnCensus f members gone.census = .halt := by
      obtain above | ⟨same, duplicate⟩ := cause
      · have apart : censusKey f ≠ k := fun same => by
          rw [show key = k from same, keyAbove_irrefl] at above
          cases above
        exact (judgeOwnCensus_other best apart).trans (if_pos above)
      · exact (judgeOwnCensus_best best same).trans (if_pos duplicate)
    rw [ownCensusReturns_halts judged] at run
    exact ⟨_, run, rfl, rfl, rfl, rfl, rfl⟩
  · have apart : censusKey f ≠ k := fun same => by
      rw [show key = k from same, keyAbove_irrefl] at below
      cases below
    have notAbove : ¬ keyAbove (censusKey f) k = true := Bool.eq_false_iff.1 (keyAbove_asymm below)
    rw [run, ownCensusReturns_nothing ((judgeOwnCensus_other (c := gone.census) best apart).trans (if_neg notAbove))]
  · have judged : judgeOwnCensus f members gone.census = .overfull := by
      rw [judgeOwnCensus_best (c := gone.census) best same, single, full]
      rfl
    rw [run, ownCensusReturns_overfull judged]
    rfl
  · have judged : judgeOwnCensus f members gone.census = .roster { epoch := f.epoch, members := members } :=
      (judgeOwnCensus_members best same single fits).trans (if_pos ⟨enough, few, distinct⟩)
    rw [run, ownCensusReturns_roster judged]
    rfl
  · have judged : judgeOwnCensus f members gone.census = .nothing := by
      refine (judgeOwnCensus_members best same single fits).trans (if_neg fun ⟨enough, _, distinct⟩ => ?_)
      obtain short | repeated := odd
      · exact absurd enough (not_le.2 short)
      · exact repeated distinct
    rw [run, ownCensusReturns_nothing judged]

/-! ### Adoption -/

/-- Adoption does not see the queues, beside the outstanding count. -/
theorem Adopts.queues {epoch : Word32} {before after : FrameHandler} (h : Adopts epoch members { s with fh := before } t)
    (outstanding : after.outstanding = t.fh.outstanding) : Adopts epoch members s { t with fh := after } :=
  ⟨h.census, h.control, outstanding.trans h.outstanding, h.clock, h.waiting, h.order, h.granted, h.orphaned, h.live, h.others,
    h.free, h.fenced, h.unfenced, h.ports, h.sound⟩

theorem rosterFits_iff (best : c.bestKey = some k) : rosterFits id f members c = true ↔
    k = { epoch := f.epoch, origin := f.origin } ∧ id ∈ members ∧ members.Nodup ∧ 2 ≤ members.length ∧ members.length ≤ 16 := by
  simp only [rosterFits, best, censusKey, Bool.and_eq_true, beq_iff_eq, Option.some.injEq, List.contains_iff_mem, decide_eq_true_eq,
    Config.maxMembers, and_assoc]
  exact and_congr eq_comm Iff.rfl

theorem frameTaking_roster (h : Takes s ready f later) (foreign : f.origin ≠ s.stationId) (fresh : f.hop.toNat < 15)
    (body : f.body = .roster members) (forming : formingOrIsolated s.ctl.state = true) :
    exec .frameTaking s = .next (foreignRoster f members (inHand s ready f later)).settle := by
  rw [frameTaking_forming h foreign fresh (dueAllowed_of_formingOrIsolated forming), dispatchForming, body]

/-- The ROSTER due is served when no CENSUS due can be (R124). -/
theorem nextDue_roster {d : RosterDue} (forming : formingOrIsolated s.ctl.state = true) (due : s.census.rosterDue = some d)
    (noCensus : s.census.censusDue = false ∨ s.up.link ≠ .up ∨ s.down.link ≠ .up) : nextDue s = some (.roster d) := by
  have skipped : ¬ (s.census.censusDue = true ∧ formingOrIsolated s.ctl.state = true ∧ bothUp s = true) := by
    rintro ⟨owed, -, both⟩
    simp only [bothUp, Bool.and_eq_true, beq_iff_eq] at both
    obtain none' | up | down := noCensus
    · rw [none'] at owed
      cases owed
    · exact up both.1
    · exact down both.2
  rw [nextDue, if_neg skipped, due, forming]

/-- Settles O48. -/
theorem rosterAdopted : Obligations.RosterAdopted := by
  refine ⟨fun s ready f later members k h foreign fresh body best forming sound => ?_,
    fun s d room forming due noCensus sound => ?_⟩
  · have run := frameTaking_roster h foreign fresh body forming
    have fits := rosterFits_iff (id := s.stationId) (f := f) (members := members) best
    refine ⟨fun same named distinct enough few => ?_, fun unfit => ?_⟩
    · obtain ⟨t, done, adopts, transit, origination, -⟩ := adopt_adopts (s := inHand s ready f later) sound f.epoch members
      refine ⟨forwarded t ready f later, ?_, adopts.queues rfl, rfl, origination⟩
      have adopted : foreignRoster f members (inHand s ready f later) = .done (readyHand f t) := by
        refine (if_pos (fits.2 ⟨same, named, distinct, enough, few⟩)).trans ?_
        rw [done]
        rfl
      rw [run, adopted, readyHand_hand f h.before h.after transit]
      rfl
    · have unfit' : ¬ rosterFits s.stationId f members s.census = true := fun yes => by
        obtain ⟨same, named, distinct, enough, few⟩ := fits.1 yes
        obtain other | unnamed | repeated | short | long := unfit
        · exact other same
        · exact unnamed named
        · exact repeated distinct
        · exact absurd enough (not_le.2 short)
        · exact absurd few (not_le.2 long)
      have dropped : foreignRoster f members (inHand s ready f later) = .done (dropHand (inHand s ready f later)) := if_neg unfit'
      rw [run, dropped, dropHand_inHand h]
      rfl
  · let g := ownFrame s d.epoch (.roster d.members)
    obtain ⟨t, done, adopts, transit, origination, -⟩ := adopt_adopts (s := enqueue g s) sound d.epoch d.members
    refine ⟨t, ?_, adopts.queues (t := t) rfl, transit, ?_⟩
    · have served : serveRoster d s = .done t := done
      refine congrArg Host.Outcome.next ((if_pos room).trans ?_)
      rw [nextDue_roster forming due noCensus]
      exact congrArg Reading.settle served
    · rw [origination, enqueue, List.filter_append]
      rfl

end

end Sys2Proof.Machine
end

section
/-! PROOF. Due service and departures (R22, R38, R39, R52, R55, R87, R92, R102, R103, R105, R122, R124 to R126, R130, R134). -/

namespace Sys2Proof.Machine

section
variable {s t v : State} {i j : SlotNo} {r q : Record} {f : Frame} {b : Ballot} {x : InSend}

/-! ### The due whose turn it is -/

theorem formingOrIsolated_of_dueAllowed (allowed : dueAllowed s.ctl.state = true) : formingOrIsolated s.ctl.state = false :=
  Bool.eq_false_iff.2 fun forming => by
    rw [dueAllowed_of_formingOrIsolated forming] at allowed
    cases allowed

theorem nextDue_census (forming : formingOrIsolated s.ctl.state = true) (due : s.census.censusDue = true) (up : s.up.link = .up)
    (down : s.down.link = .up) : nextDue s = some .census :=
  if_pos ⟨due, forming, by simp [bothUp, up, down]⟩

/-- In ACTIVE and LEAVING the FENCE_END due comes first, then the due of the lowest slot (R124, R125). -/
theorem nextDue_inActive (allowed : dueAllowed s.ctl.state = true) : nextDue s =
    if s.shadow.fenceEndDue then some .fenceEnd else (s.table.find fun _ sl => sl.holds (·.due.isSome)).map .record := by
  have denied := formingOrIsolated_of_dueAllowed allowed
  rw [nextDue, if_neg (by simp [denied]), denied, if_pos allowed]
  cases s.census.rosterDue <;> rfl

theorem nextDue_record (allowed : dueAllowed s.ctl.state = true) (noFence : s.shadow.fenceEndDue = false)
    (held : s.record i = some r) (due : r.due ≠ none) (lowest : ∀ j q, j < i → s.record j = some q → q.due = none) :
    nextDue s = some (.record i) := by
  have content : (s.table.get i).content = some r := held
  have found : (s.table.find fun _ sl => sl.holds (·.due.isSome)) = some i := by
    refine (Table.find_eq_some ..).2 ⟨?_, fun j below => ?_⟩
    · simpa [Slot.holds, content, Option.isSome_iff_ne_none] using due
    · cases other : (s.table.get j).content with
      | none => simp [Slot.holds, other]
      | some q => simp [Slot.holds, other, lowest j q below other]
  rw [nextDue_inActive allowed, noFence, found]
  rfl

/-- While the origination queue has room, the chosen record due is served (R124). -/
theorem dueService_record (room : s.fh.origination.length < 16) (next : nextDue s = some (.record i)) :
    exec .dueService s = .next (serveRecord i s).settle :=
  congrArg Host.Outcome.next ((if_pos room).trans (by rw [next]))

/-! ### The service of a record -/

theorem serveRecord_damaged (damaged : (s.table.get i).damaged = true) : serveRecord i s = .failed i s := if_pos damaged

theorem serveRecord_announce {c : AnnounceCause} (slot : s.table.get i = { content := some r, damaged := false })
    (due : r.due = some (.announce c)) :
    serveRecord i s = .done (enqueue (announceFrame c r s) (writeRecord i { r with due := none } s)) := by
  rw [serveRecord, slot]
  simp only [due, Bool.false_eq_true, if_false]

theorem serveRecord_release {reason : ReleaseReason} (slot : s.table.get i = { content := some r, damaged := false })
    (due : r.due = some (.release reason)) : serveRecord i s =
      .done (freeIfDone i (writeRecord i { r with due := none } (enqueue (releaseFrame reason r s) s))) := by
  rw [serveRecord, slot]
  simp only [due, Bool.false_eq_true, if_false]

/-- A BALLOT due is served as its local scan says (R38). -/
theorem serveRecord_blocked (slot : s.table.get i = { content := some r, damaged := false }) (due : r.due = some .ballot)
    (scan : localScan i r.identity r.range r.mode s = .blocked) :
    serveRecord i s = .done (writeRecord i (enterWaiting .localScan r) s) := by
  rw [serveRecord, slot]
  simp only [due, scan, Bool.false_eq_true, if_false]

theorem serveRecord_clear (slot : s.table.get i = { content := some r, damaged := false }) (due : r.due = some .ballot)
    (scan : localScan i r.identity r.range r.mode s = .clear) :
    serveRecord i s = .done (enqueue (ballotFrame r s) (writeRecord i { r with due := none } s)) := by
  rw [serveRecord, slot]
  simp only [due, scan, Bool.false_eq_true, if_false]

theorem serveRecord_scanFailed (slot : s.table.get i = { content := some r, damaged := false }) (due : r.due = some .ballot)
    (scan : localScan i r.identity r.range r.mode s = .failed j) : serveRecord i s = .failed j s := by
  rw [serveRecord, slot]
  simp only [due, scan, Bool.false_eq_true, if_false]

/-- Settles O49, in the order of R124. -/
theorem duesServed : Obligations.DuesServed := by
  refine ⟨fun s k room forming due up down best => ?_, fun s room allowed due => ?_, ?_,
    fun s i r room allowed noFence held lowest => ⟨fun due damaged => ?_, fun j due sound fence other heldJ damaged => ?_⟩,
    fun s full => congrArg Host.Outcome.next (if_neg (not_lt.2 full))⟩
  · refine congrArg Host.Outcome.next ((if_pos room).trans ?_)
    have built : censusFrame s = ownFrame s k.epoch (.census [s.stationId]) := by
      rw [censusFrame, best]
      rfl
    simp only [nextDue_census forming due up down, built]
    rfl
  · refine congrArg Host.Outcome.next ((if_pos room).trans ?_)
    simp only [nextDue_inActive allowed, due, if_true]
    rfl
  · intro s i r room allowed noFence sound held lowest queued
    have slot := get_of_record sound held
    have serves (due : r.due ≠ none) : exec .dueService s = .next (serveRecord i s).settle :=
      dueService_record room (nextDue_record allowed noFence held due lowest)
    refine ⟨fun c due => ?_, fun reason due => ?_, fun due => ?_⟩
    · rw [serves (by simp [due]), serveRecord_announce slot due]
      rfl
    · intro f
      rw [serves (by simp [due]), serveRecord_release slot due, freeIfDone_writeRecord]
      exact ⟨fun gone unmarked => congrArg Host.Outcome.next (if_pos ⟨gone, rfl, unmarked⟩),
        fun marked => congrArg Host.Outcome.next (if_neg fun done => marked done.2.2)⟩
    · rw [serves (by simp [due])]
      refine ⟨fun blocked => ?_, fun fence clear => ?_⟩
      · rw [serveRecord_blocked slot due (localScan_blocked sound (blocked.imp_right blocks_iff.1))]
        rfl
      · rw [serveRecord_clear slot due (localScan_clear sound fence (blocks_iff.not.1 clear))]
        rfl
  · obtain ⟨halts, host⟩ := tableCheck_halts (not_halted_of_dueAllowed allowed) i
    refine ⟨_, ?_, halts, host⟩
    rw [dueService_record room (nextDue_record allowed noFence held due lowest), serveRecord_damaged damaged]
    rfl
  · obtain ⟨k, failed⟩ := localScan_failed (stamp := r.identity) (range := r.range) (mode := r.mode) fence other heldJ damaged
    obtain ⟨halts, host⟩ := tableCheck_halts (not_halted_of_dueAllowed allowed) k
    have slot : s.table.get i = { content := some r, damaged := false } := by
      have content : (s.table.get i).content = some r := held
      rw [← content, ← sound]
    refine ⟨_, ?_, halts, host⟩
    rw [dueService_record room (nextDue_record allowed noFence held (by simp [due]) lowest),
      serveRecord_scanFailed slot due failed]
    rfl

/-! ### Departures -/

theorem frameDeparture_transit (sending : s.fh.inSend = some x) (source : x.source = .transit) :
    exec .frameDeparture s = .next (departed x s) := by
  simp only [exec, execFrameDeparture, sending, source]
  rfl

theorem frameDeparture_own (sending : s.fh.inSend = some x) (source : x.source = .origination) :
    exec .frameDeparture s = .next (departOwn x.frame (departed x s)).settle := by
  simp only [exec, execFrameDeparture, sending, source]
  rfl

/-- The lane behind a departed frame (R102, R105). -/
theorem departed_transit (source : x.source = .transit) : departed x s = { s with
    down := { s.down with
      credit := s.down.credit - 1
      sent := s.down.sent ++ .frame x.bytes :: List.replicate x.rebases .rebase }
    up := { s.up with
      sent := if x.left = false ∧ s.up.link = .up then s.up.sent ++ [.token] else s.up.sent }
    fh := { s.fh with
      inSend := none, transit := if x.left then s.fh.transit else s.fh.transit.tail } } := by
  cases left : x.left with
  | true =>
    simp [departed, chargeCredit, leaveAtDeparture, left]
  | false =>
    simp [departed, chargeCredit, leaveAtDeparture, left, source, returnTokens]

/-- The station behind an originated frame, before what the frame itself starts (R102, R105, R130). -/
def ownGone (x : InSend) (s : State) : State :=
  { s with
    down := { s.down with
      credit := s.down.credit - 1
      sent := s.down.sent ++ .frame x.bytes :: List.replicate x.rebases .rebase }
    fh := { s.fh with
      inSend := none, origination := if x.left then s.fh.origination else s.fh.origination.tail } }

theorem departed_own (source : x.source = .origination) : departed x s = ownGone x s := by
  cases left : x.left with
  | true =>
    simp [departed, chargeCredit, leaveAtDeparture, ownGone, left]
  | false =>
    simp [departed, chargeCredit, leaveAtDeparture, ownGone, left, source]

theorem departOwn_counted (counted : isCounted f = true) (noBallot : isBallot f = false) :
    departOwn f s = .done (countDeparture s) := by
  cases body : f.body with
  | census members => simp [isCounted, body] at counted
  | roster members => simp [isCounted, body] at counted
  | ballot b => simp [isBallot, body] at noBallot
  | announce a => rw [departOwn, body]
  | release y => rw [departOwn, body]

theorem departOwn_ballot (body : f.body = .ballot b) : departOwn f s = startBallotTimer f b (countDeparture s) := by
  rw [departOwn, body]

theorem matchesDeparture_iff : matchesDeparture f b r = true ↔ r.kind = .own ∧ r.state = .pending ∧
    r.identity.epoch = f.epoch ∧ r.identity.count = b.count ∧ r.issue = b.issue ∧ r.mainTimer = none := by
  simp [matchesDeparture, and_assoc]

theorem startBallotTimer_found (found : lookup (matchesDeparture f b) s = .found i r) : startBallotTimer f b s =
    .done (writeRecord i { r with mainTimer := some (s.ctl.config.ballotLimit.setWidth 16) } s) := by
  rw [startBallotTimer, found]

theorem startBallotTimer_absent (absent : lookup (matchesDeparture f b) s = .absent) : startBallotTimer f b s = .done s := by
  rw [startBallotTimer, absent]

/-- The retry timer behind a departed frame (R134, R143). -/
def retryBehind (f : Frame) (s : State) : Option Word16 :=
  if isCensus f = true ∧ some (censusKey f) = s.census.bestKey ∧ formingOrIsolated s.ctl.state = true ∧ s.census.censusDue = false
  then some 10 else s.census.retryTimer

theorem departOwn_uncounted (uncounted : isCounted f = false) :
    departOwn f s = .done { s with census := { s.census with retryTimer := retryBehind f s } } := by
  cases body : f.body with
  | census members =>
    simp [departOwn, body, startRetryTimer, retryBehind, isCensus, Config.censusRetryTicks]
  | roster members =>
    simp [departOwn, body, retryBehind, isCensus]
  | ballot b => simp [isCounted, body] at uncounted
  | announce a => simp [isCounted, body] at uncounted
  | release y => simp [isCounted, body] at uncounted

/-- Settles O51, by the queue and the kind of the frame in send. -/
theorem frameDeparts : Obligations.FrameDeparts := by
  intro s x sending lane origination raised
  have own (source : x.source = .origination) : exec .frameDeparture s = .next (departOwn x.frame (ownGone x s)).settle := by
    rw [frameDeparture_own sending source, departed_own source]
  refine ⟨fun source => ?_, fun source counted noBallot => ?_, fun b source body sound => ?_, fun source uncounted => ?_⟩
  · rw [frameDeparture_transit sending source, departed_transit source]
  · rw [own source, departOwn_counted counted noBallot]
    rfl
  · have starts := own source
    rw [departOwn_ballot body] at starts
    refine ⟨fun i r held kind pending epoch count issue untimed lowest => ?_, fun none' => ?_⟩
    · have found : lookup (matchesDeparture x.frame b) (countDeparture (ownGone x s)) = .found i r :=
        lookup_found (s := countDeparture (ownGone x s)) sound held
          (matchesDeparture_iff.2 ⟨kind, pending, epoch, count, issue, untimed⟩) fun j q below heldQ =>
            Bool.eq_false_iff.2 fun hit => lowest j q below heldQ (matchesDeparture_iff.1 hit)
      rw [starts, startBallotTimer_found found, BitVec.ofNat_toNat]
      rfl
    · have absent : lookup (matchesDeparture x.frame b) (countDeparture (ownGone x s)) = .absent :=
        lookup_absent (s := countDeparture (ownGone x s)) sound fun j q heldQ =>
          Bool.eq_false_iff.2 fun hit => none' j q heldQ (matchesDeparture_iff.1 hit)
      rw [starts, startBallotTimer_absent absent]
      rfl
  · refine ⟨retryBehind x.frame s, ?_, fun census best forming unowed => if_pos ⟨census, best, forming, unowed⟩,
      fun other => if_neg fun ⟨census, best, _⟩ => ?_⟩
    · rw [own source, departOwn_uncounted uncounted]
      rfl
    · obtain noCensus | apart := other
      · rw [noCensus] at census
        cases census
      · exact apart best

end

end Sys2Proof.Machine
end
